-- ==== Sys2Proof/Word.lean ====
section
/-! DEFINITION. The word types of the block (00_scope.md R7, R8; 30_encoding.md R78). -/

namespace Sys2Proof

/-- A host register or a bus data word: 32 bits, bit 0 least significant (R7 REG_WIDTH, R8). -/
abbrev Word := BitVec 32

/-- One byte of an encoding, or one byte lane of the window (R56). -/
abbrev Byte := BitVec 8

/-- The code operand CODE_HI : CODE_LO (R7 CODE_WIDTH, R30). -/
abbrev Code := BitVec 64

/-- The DUR field of a micro-operation, in microseconds (R78). -/
abbrev Duration := BitVec 41

/-- A micro-operation word: KIND in bits 43..41, DUR in bits 40..0 (R78). -/
abbrev UopWord := BitVec 44

end Sys2Proof
end

