-- ==== Sys2Proof/Config.lean ====
section
/-! DEFINITION. The implementation parameters of 00_scope.md R7, and the free values.
A parameter the source or a decision fixes is a number; an OPEN parameter and every environment draw is a
constant without a body, so no proof can learn its value. -/

namespace Sys2Proof

/-- The backend's answer to one driver operation (30_encoding.md R77: DRV_ERR 0 is `ok`, 1 is `err`). -/
inductive Answer where
  | ok
  | err
deriving DecidableEq, Repr, Inhabited

/-- The two values of the OPEN parameter RELEASE_FAIL_STATE (R7, 43_device_commands.md R176). -/
inductive ReleaseFailState where
  | enabled
  | disabled
deriving DecidableEq, Repr, Inhabited

/-- The OPEN parameters a rule reads (R7): the greatest overshoot of one hold, the greatest latency of one
driver operation, and the lifecycle state after a failed release. -/
structure Params where
  holdSlackUs : Nat
  setLatencyUs : Nat
  releaseFailState : ReleaseFailState
deriving DecidableEq, Repr

/-- PROTO_COUNT (R7, 40_protocol_lut.md R101). -/
abbrev Config.protoCount : Nat := 6

/-- PAD_EXTRA (R7). -/
abbrev Config.padExtra : Nat := 2

/-- WIDEN_THRESHOLD, 2^24 (R7). -/
abbrev Config.widenThreshold : Nat := 16777216

/-- WIDEN_TO (R7). -/
abbrev Config.widenTo : Nat := 32

/-- GAP_US (R7). -/
abbrev Config.gapUs : Nat := 1

/-- WINDOW_SIZE in bytes (R7, 20_memory.md R50). -/
abbrev Config.windowSize : Nat := 256

/-- HOLD_SLACK_US, OPEN (R7, log 4). -/
opaque Config.holdSlackUs : Nat

/-- SET_LATENCY_US, OPEN (R7, log 4). -/
opaque Config.setLatencyUs : Nat

/-- RELEASE_FAIL_STATE, OPEN (R7, log 4). -/
opaque Config.releaseFailState : ReleaseFailState

/-- CLK_PER_US, OPEN and read by no rule (R7, log 17). -/
opaque Config.clkPerUs : Nat

/-- PLTC_BASE, OPEN; the block decodes only the offset, so nothing here reads it (20_memory.md R50, log 17). -/
opaque Config.pltcBase : Nat

/-- The free value behind the `n`-th driver operation's answer (44_gpio_output.md R190, log 2). -/
opaque Config.backendAnswer : Nat → Answer

/-- The free value behind the `n`-th slack or latency draw, before it is cut to its bound (R138, R139, log 3). -/
opaque Config.delayDraw : Nat → Nat

end Sys2Proof
end

