-- ==== Sys2Proof/Syntax.lean ====
section
/-! DEFINITION. The instructions: the eleven rows of spec/opcode_table.json, the encodings they arrive in
(its four formats), and the names of the registers of the window. -/

namespace Sys2Proof

/-- What a command word stands for (30_encoding.md R71, R72). -/
inductive Command where
  | init
  | send
  | cleanup
  /-- Any other word, kept whole (R72). -/
  | illegal (word : Word)
deriving DecidableEq, Repr

/-- The operations of the driver port (30_encoding.md R76). -/
inductive DrvOp where
  | setLow
  | setHigh
  | acquire
  | release
deriving DecidableEq, Repr

/-- A micro-operation of the sequencer (30_encoding.md R78): a driver operation or a hold. -/
inductive MicroOp where
  | drv (op : DrvOp)
  | hold (dur : Duration)
deriving DecidableEq, Repr

/-- One access on the host port: what its signals carry (20_memory.md R52, R53; widths: log 13).
`size` is the access size in bytes and `off` the byte offset from the window's base. -/
inductive BusCycle where
  | read (size : BitVec 8) (off : BitVec 32)
  | write (size : BitVec 8) (off : BitVec 32) (data : Word)
deriving DecidableEq, Repr

/-- The four formats of the opcode table. -/
inductive Format where
  | cmd
  | bus
  | drv
  | uop
deriving DecidableEq, Repr

/-- An encoded instruction, in its format. -/
inductive Encoded where
  | cmd (word : Word)
  | bus (cycle : BusCycle)
  | drv (op : BitVec 2)
  | uop (word : UopWord)
deriving DecidableEq, Repr

/-- A register of the window (20_memory.md R51). -/
inductive Reg where
  | cmd
  | status
  | argProto
  | argRepeat
  | argPulse
  | argBitlen
  | codeLo
  | codeHi
  | devProto
  | devRepeat
  | devPulse
  | devBitlen
  | line
  | lutW0 (i : Fin 6)
  | lutW1 (i : Fin 6)
deriving DecidableEq, Repr

/-- The instructions, one constructor per row of spec/opcode_table.json. -/
inductive Instr where
  /-- INIT, command word 0x00000001 (R165). -/
  | init
  /-- SEND, command word 0x00000002 (R168). -/
  | send
  /-- CLEANUP, command word 0x00000003 (R174). -/
  | cleanup
  /-- ILLEGAL_CMD, any other command word (R164, R72). -/
  | illegalCmd (word : Word)
  /-- RD, a host bus read (R52). -/
  | rd (size : BitVec 8) (off : BitVec 32)
  /-- WR, a host bus write (R53). -/
  | wr (size : BitVec 8) (off : BitVec 32) (value : Word)
  /-- SET_LOW, DRV_OP 0b00 (R191, R139). -/
  | setLow
  /-- SET_HIGH, DRV_OP 0b01 (R191, R139). -/
  | setHigh
  /-- ACQUIRE, DRV_OP 0b10 (R193). -/
  | acquire
  /-- RELEASE, DRV_OP 0b11 (R194). -/
  | release
  /-- HOLD, KIND 0b100 (R138). -/
  | hold (dur : Duration)
deriving DecidableEq, Repr

end Sys2Proof
end

