-- ==== Sys2Proof/Machine/State.lean ====
section
/-! DEFINITION. The state of the block (10_state.md), of the environment's lists, and the machine after reset
(70_reset_and_hazards.md R230). Plain data throughout. -/

namespace Sys2Proof.Machine

/-- STATUS.STATE (10_state.md R22, R23). Value 3 is never produced, so it has no constructor. -/
inductive Lifecycle where
  /-- No device constructed; the state after reset. -/
  | none
  /-- A device is constructed and may transmit. -/
  | enabled
  /-- The device is torn down. -/
  | disabled
deriving DecidableEq, Repr

/-- STATUS.RESULT (60_exceptions.md R201). Codes 9 to 15 are never produced, so they have no constructor. -/
inductive ResultCode where
  | ok
  | errNotInit
  | errDoubleTeardown
  | errIo
  | errRelease
  | errAcquire
  | errBadProtocol
  | errLineOwned
  | errBadCmd
deriving DecidableEq, Repr

/-- CUR_CMD, the running command (10_state.md R36). -/
inductive CurCmd where
  | none
  | init
  | send
  | cleanup
deriving DecidableEq, Repr

/-- The latched values a SEND's micro-operation list is a function of (42_waveform_transmitter.md R136):
`BuildSend(idx, P, R, LCODE, LLEN, TXLEN)`. -/
structure SendPlan where
  proto : Fin 6
  pulse : Word
  repeats : Word
  code : Code
  llen : BitVec 33
  txlen : Word
deriving DecidableEq, Repr

/-- UOPS (10_state.md R36). A SEND's list may have about 2^66 entries, so it is held as the values R137
computes each entry from; other lists are held as their words (log 8). -/
inductive UopList where
  | words (ws : List UopWord)
  | send (plan : SendPlan)
deriving DecidableEq, Repr

/-- One entry of TRACE (42_waveform_transmitter.md R141). -/
structure DrvEvent where
  time : Nat
  op : DrvOp
  res : Answer
deriving DecidableEq, Repr

/-- What the host port answered to the last bus cycle (20_memory.md R52, R53, R55; log 6). -/
inductive BusResponse where
  /-- No cycle since reset. -/
  | idle
  /-- A read was performed and gave this value (R52). -/
  | data (value : Word)
  /-- A write was performed (R53). -/
  | written
  /-- BusError: the access failed and had no effect (R55, 60_exceptions.md R203). -/
  | busError (off : BitVec 32)
deriving DecidableEq, Repr

/-- What comes to the block from outside, in the order it comes (log 1). -/
inductive Input where
  /-- The host performs one bus cycle. -/
  | bus (cycle : BusCycle)
  /-- The host does nothing and the sequencer has its turn. -/
  | tick
  /-- RST is asserted (70_reset_and_hazards.md R230). -/
  | rst
deriving DecidableEq, Repr

/-- The state of the machine. `time` and `trace` are the observations of R38; from `resp` on, the fields are the
host port's response, the environment's lists and the parameters, not registers of the block. -/
structure State where
  /-- STATUS.STATE, bits 1..0 (R22). -/
  lifecycle : Lifecycle
  /-- STATUS.BUSY, bit 2 (R22). -/
  busy : Bool
  /-- STATUS.REJECT, bit 3 (R22, 60_exceptions.md R204). -/
  reject : Bool
  /-- STATUS.RESULT, bits 7..4 (R22). -/
  result : ResultCode
  /-- ARG_PROTO, offset 0x08 (R26). -/
  argProto : Word
  /-- ARG_REPEAT, offset 0x0C (R27). -/
  argRepeat : Word
  /-- ARG_PULSE, offset 0x10 (R28). -/
  argPulse : Word
  /-- ARG_BITLEN, offset 0x14 (R29). -/
  argBitlen : Word
  /-- CODE_LO, offset 0x18 (R30). -/
  codeLo : Word
  /-- CODE_HI, offset 0x1C (R30). -/
  codeHi : Word
  /-- DEV_PROTO, offset 0x20; 32 bits wide with values 0 to 5 only (R31, log 16). -/
  devProto : Fin 6
  /-- DEV_REPEAT, offset 0x24 (R31). -/
  devRepeat : Word
  /-- DEV_PULSE, offset 0x28 (R31). -/
  devPulse : Word
  /-- DEV_BITLEN, offset 0x2C (R31, R32). -/
  devBitlen : Word
  /-- LINE.LEVEL, bit 0 of offset 0x30 (R34). -/
  lineLevel : Bool
  /-- LINE.OWNED, bit 1 of offset 0x30 (R34). -/
  lineOwned : Bool
  /-- CUR_CMD (R36). -/
  curCmd : CurCmd
  /-- LCODE (R36). -/
  lcode : Code
  /-- LLEN (R36). -/
  llen : BitVec 33
  /-- TXLEN (R36). -/
  txlen : Word
  /-- UOPS (R36). -/
  uops : UopList
  /-- SEQ_IDX (R21, R36). -/
  seqIdx : Nat
  /-- TIMER, microseconds (R36, 60_exceptions.md R210). -/
  timer : Duration
  /-- `idx` as an accepted INIT read it (43_device_commands.md R165, log 7). -/
  latProto : Fin 6
  /-- `rep` as an accepted INIT read it (R165, log 7). -/
  latRepeat : Word
  /-- `pl` as an accepted INIT read it (R165, log 7). -/
  latPulse : Word
  /-- `bl` as an accepted INIT read it (R165, log 7). -/
  latBitlen : Word
  /-- Model time t, microseconds (R38). -/
  time : Nat
  /-- TRACE, oldest event first (R38, R141). -/
  trace : List DrvEvent
  /-- The host port's response (log 6). -/
  resp : BusResponse
  /-- What comes from outside, next first (log 1). -/
  inputs : List Input
  /-- The backend's coming answers, as far as they are listed (R190, log 2). -/
  answers : List Answer
  /-- How many answers have been taken (log 2). -/
  drvCount : Nat
  /-- The coming slack and latency draws, as far as they are listed (R138, R139, log 3). -/
  delays : List Nat
  /-- How many draws have been taken (log 3). -/
  delayCount : Nat
  /-- The OPEN parameters; no step changes them (00_scope.md R7, log 4). -/
  params : Params
deriving DecidableEq, Repr

/-- Why the machine stops. Nothing the spec describes stops this block: its errors are result codes and bus
responses, and they are next states. -/
inductive Fault where
  /-- Raised by `step` where BUSY = 1 and an INIT or CLEANUP has no micro-operation left, a state no run
  reaches. Safe: the model stops where the spec describes nothing (log 15). -/
  | lostMicroOp
deriving DecidableEq, Repr

/-- Why a step has no meaning. -/
inductive Refusal where
  /-- Raised by an arm of `exec` whose instruction has no meaning yet. Safe. -/
  | notModelled (mnemonic : String)
  /-- Raised by `step` where the word at SEQ_IDX is no micro-operation of 30_encoding.md R78 (KIND 0b101 to
  0b111, or a driver operation with DUR ≠ 0), which no command generates. Safe (log 14). -/
  | undecodedMicroOp (word : UopWord)
deriving DecidableEq, Repr

/-- The machine right after reset (70_reset_and_hazards.md R230; 95_test_vectors.md for t = 0). -/
def State.reset : State where
  lifecycle := .none
  busy := false
  reject := false
  result := .ok
  argProto := 0#32
  argRepeat := 0#32
  argPulse := 0#32
  argBitlen := 0#32
  codeLo := 0#32
  codeHi := 0#32
  devProto := 0
  devRepeat := 0#32
  devPulse := 0#32
  devBitlen := 0#32
  lineLevel := false
  lineOwned := false
  curCmd := .none
  lcode := 0#64
  llen := 0#33
  txlen := 0#32
  uops := .words []
  seqIdx := 0
  timer := 0#41
  latProto := 0
  latRepeat := 0#32
  latPulse := 0#32
  latBitlen := 0#32
  time := 0
  trace := []
  resp := .idle
  inputs := []
  answers := []
  drvCount := 0
  delays := []
  delayCount := 0
  params :=
    { holdSlackUs := Config.holdSlackUs
      setLatencyUs := Config.setLatencyUs
      releaseFailState := Config.releaseFailState }

end Sys2Proof.Machine
end

