-- ==== Sys2Proof/Machine/Flags.lean ====
section
/-! DEFINITION. The status and line words, computed from the flags they show (10_state.md R22 to R24, R34,
R35). The block has no arithmetic condition codes (R24). -/

namespace Sys2Proof.Machine

/-- STATUS[1:0] (R22). -/
def lifecycleCode : Lifecycle → BitVec 2
  | .none => 0#2
  | .enabled => 1#2
  | .disabled => 2#2

/-- STATUS[7:4] (60_exceptions.md R201). -/
def resultNumber : ResultCode → BitVec 4
  | .ok => 0#4
  | .errNotInit => 1#4
  | .errDoubleTeardown => 2#4
  | .errIo => 3#4
  | .errRelease => 4#4
  | .errAcquire => 5#4
  | .errBadProtocol => 6#4
  | .errLineOwned => 7#4
  | .errBadCmd => 8#4

/-- STATUS: RESULT, REJECT, BUSY, STATE, and 24 zeros above (R22, R23). -/
def statusWord (s : State) : Word :=
  0#24 ++ resultNumber s.result ++ BitVec.ofBool s.reject ++ BitVec.ofBool s.busy
    ++ lifecycleCode s.lifecycle

/-- LINE: OWNED, LEVEL, and 30 zeros above (R34). -/
def lineWord (s : State) : Word :=
  0#30 ++ BitVec.ofBool s.lineOwned ++ BitVec.ofBool s.lineLevel

/-- What the block drives on the pin: LINE.LEVEL while it owns the line, nothing otherwise (R35). -/
def lineDrive (s : State) : Option Bool := if s.lineOwned then some s.lineLevel else none

/-- `transmitEnabled` of the source (R31). -/
def transmitEnabled (s : State) : Bool := decide (s.lifecycle = .enabled)

end Sys2Proof.Machine
end

