-- ==== Sys2Proof/WellFormed.lean ====
section
/-! DEFINITION. Which instructions an encoding of the spec can carry. Every bus access is well formed, the
malformed ones of 20_memory.md R55 too: those are accesses with an effect of their own, the BusError. -/

namespace Sys2Proof

/-- ILLEGAL_CMD stands only for words that are none of the three commands (30_encoding.md R72). -/
def wfCommand : Command → Bool
  | .illegal w => w != 1#32 && w != 2#32 && w != 3#32
  | _ => true

/-- HOLD's DUR is 0 to 255 × (2^32 − 1) (30_encoding.md R78). The decoder accepts a longer one too (log 23). -/
def wfMicroOp : MicroOp → Bool
  | .hold d => decide (d.toNat ≤ 255 * (2 ^ 32 - 1))
  | .drv _ => true

/-- The well-formed instructions. -/
def Instr.wf : Instr → Bool
  | .init => wfCommand .init
  | .send => wfCommand .send
  | .cleanup => wfCommand .cleanup
  | .illegalCmd w => wfCommand (.illegal w)
  | .rd _ _ => true
  | .wr _ _ _ => true
  | .setLow => wfMicroOp (.drv .setLow)
  | .setHigh => wfMicroOp (.drv .setHigh)
  | .acquire => wfMicroOp (.drv .acquire)
  | .release => wfMicroOp (.drv .release)
  | .hold d => wfMicroOp (.hold d)

end Sys2Proof
end

