-- ==== Sys2Proof/Decode.lean ====
section
/-! DEFINITION. The decoder of the four formats, total on any bytes and rejecting by name, and the encoder
written from the same tables (30_encoding.md R70 to R72, R76, R78, R80). -/

namespace Sys2Proof

/-- Why an encoding stands for no instruction. -/
inductive DecodeError where
  /-- The bytes are too few or too many for the format. -/
  | wrongLength
  /-- Bits the format does not have are not 0. -/
  | nonzeroPadding
  /-- A bus line that begins neither with R nor with W (R80). -/
  | notABusCycle
  /-- KIND 0b101 to 0b111, never generated (R78). -/
  | reservedKind
  /-- A driver micro-operation whose DUR is not 0 (R78). -/
  | nonzeroDur
deriving DecidableEq, Repr

/-- What the decoder answers. -/
inductive Decoded where
  | ok (i : Instr)
  | rejected (why : DecodeError)
deriving DecidableEq, Repr

/-! ### From an encoding to an instruction -/

/-- The command word, matched on all 32 bits (R70, R71, R72). -/
def decodeCommand (w : Word) : Command :=
  if w = 0x00000001#32 then .init
  else if w = 0x00000002#32 then .send
  else if w = 0x00000003#32 then .cleanup
  else .illegal w

/-- DRV_OP (R76). -/
def decodeDrvOp (op : BitVec 2) : DrvOp :=
  if op = 0b00#2 then .setLow
  else if op = 0b01#2 then .setHigh
  else if op = 0b10#2 then .acquire
  else .release

/-- KIND, bits 43..41 of a micro-operation word (R78). -/
def uopKind (w : UopWord) : BitVec 3 := w.extractLsb' 41 3

/-- DUR, bits 40..0 of a micro-operation word (R78). -/
def uopDur (w : UopWord) : Duration := w.extractLsb' 0 41

/-- A micro-operation word (R78). KIND[1:0] of a driver micro-operation is its DRV_OP. That a word the table does
not have is rejected is a DESIGN CHOICE (log 14), and so is that a HOLD word whose DUR is above R78's greatest
duration, 255 × (2^32 − 1), is accepted with its DUR as it stands (log 23). -/
def decodeMicroOp (w : UopWord) : Except DecodeError MicroOp :=
  if uopKind w = 0b100#3 then .ok (.hold (uopDur w))
  else if 0b100#3 < uopKind w then .error .reservedKind
  else if uopDur w = 0#41 then .ok (.drv (decodeDrvOp ((uopKind w).extractLsb' 0 2)))
  else .error .nonzeroDur

/-- The instruction a command word is. -/
def Command.toInstr : Command → Instr
  | .init => .init
  | .send => .send
  | .cleanup => .cleanup
  | .illegal w => .illegalCmd w

/-- The instruction a driver operation is. -/
def DrvOp.toInstr : DrvOp → Instr
  | .setLow => .setLow
  | .setHigh => .setHigh
  | .acquire => .acquire
  | .release => .release

/-- The instruction a micro-operation is. -/
def MicroOp.toInstr : MicroOp → Instr
  | .drv op => op.toInstr
  | .hold d => .hold d

/-- The instruction a bus cycle is (R52, R53, R80). -/
def BusCycle.toInstr : BusCycle → Instr
  | .read size off => .rd size off
  | .write size off data => .wr size off data

/-- The decoder. -/
def decode : Encoded → Decoded
  | .cmd w => .ok (decodeCommand w).toInstr
  | .bus c => .ok c.toInstr
  | .drv op => .ok (decodeDrvOp op).toInstr
  | .uop w =>
    match decodeMicroOp w with
    | .ok m => .ok m.toInstr
    | .error e => .rejected e

/-! ### From bytes to an encoding: the lowest address first, each word little-endian (20_memory.md R56) -/

/-- The number that bytes, least significant first, stand for. -/
def natOfBytes : List Byte → Nat
  | [] => 0
  | b :: bs => b.toNat + 256 * natOfBytes bs

/-- The `n` low bytes of a number, least significant first. -/
def bytesOfNat : Nat → Nat → List Byte
  | 0, _ => []
  | n + 1, w => BitVec.ofNat 8 w :: bytesOfNat n (w / 256)

/-- How many bytes an encoding of each format has. A command word is 32 bits (R70), a driver operation 2
bits in one byte (R76), a micro-operation word 44 bits in six bytes (R78). The spec gives a bus cycle no
bits, only the line `R <offset>` or `W <offset> <data>` (R80); the ten bytes here are the model's (log 13). -/
def Format.bytes : Format → Nat
  | .cmd => 4
  | .bus => 10
  | .drv => 1
  | .uop => 6

/-- A bus line: the letter R or W, the size, the offset and the data (R80, log 13). -/
def frameBus (n : Nat) : Except DecodeError BusCycle :=
  let letter := n % 256
  let size := BitVec.ofNat 8 (n / 2 ^ 8)
  let off := BitVec.ofNat 32 (n / 2 ^ 16)
  let data := BitVec.ofNat 32 (n / 2 ^ 48)
  if letter = 0x57 then .ok (.write size off data)
  else if letter = 0x52 then
    if data = 0#32 then .ok (.read size off) else .error .nonzeroPadding
  else .error .notABusCycle

/-- The encoding that the bytes of a format hold. -/
def frame (fmt : Format) (bytes : List Byte) : Except DecodeError Encoded :=
  if bytes.length ≠ fmt.bytes then .error .wrongLength
  else
    let n := natOfBytes bytes
    match fmt with
    | .cmd => .ok (.cmd (BitVec.ofNat 32 n))
    | .drv => if n < 4 then .ok (.drv (BitVec.ofNat 2 n)) else .error .nonzeroPadding
    | .uop => if n < 2 ^ 44 then .ok (.uop (BitVec.ofNat 44 n)) else .error .nonzeroPadding
    | .bus =>
      match frameBus n with
      | .ok c => .ok (.bus c)
      | .error e => .error e

/-- The decoder on bytes. -/
def decodeBytes (fmt : Format) (bytes : List Byte) : Decoded :=
  match frame fmt bytes with
  | .ok e => decode e
  | .error e => .rejected e

/-- The format whose instructions have `nbits` bits in whole bytes: 8 for a driver operation, 32 for a
command word, 48 for a micro-operation word, 80 for a bus line. -/
def formatOfBits (nbits : Nat) : Option Format :=
  if nbits = 32 then some .cmd
  else if nbits = 8 then some .drv
  else if nbits = 48 then some .uop
  else if nbits = 80 then some .bus
  else none

/-- The encoding of a table row's bits. -/
def encodedOfTableWord (nbits w : Nat) : Except DecodeError Encoded :=
  match formatOfBits nbits with
  | some fmt => frame fmt (bytesOfNat fmt.bytes w)
  | none => .error .wrongLength

/-- The instruction the decoder reads from an instruction whose bits are `w`. -/
def decodeTableWord (nbits w : Nat) : Option Instr :=
  match formatOfBits nbits with
  | some fmt =>
    match decodeBytes fmt (bytesOfNat fmt.bytes w) with
    | .ok i => some i
    | .rejected _ => none
  | none => none

/-! ### The encoder -/

/-- The word of a command (R71, R72). -/
def encodeCommand : Command → Word
  | .init => 0x00000001#32
  | .send => 0x00000002#32
  | .cleanup => 0x00000003#32
  | .illegal w => w

/-- DRV_OP of a driver operation (R76). -/
def encodeDrvOp : DrvOp → BitVec 2
  | .setLow => 0b00#2
  | .setHigh => 0b01#2
  | .acquire => 0b10#2
  | .release => 0b11#2

/-- The word of a micro-operation, KIND then DUR (R78). -/
def encodeMicroOp : MicroOp → UopWord
  | .drv op => 0b0#1 ++ encodeDrvOp op ++ 0#41
  | .hold d => 0b100#3 ++ d

/-- The encoding of an instruction, in its row's format. -/
def encode : Instr → Encoded
  | .init => .cmd (encodeCommand .init)
  | .send => .cmd (encodeCommand .send)
  | .cleanup => .cmd (encodeCommand .cleanup)
  | .illegalCmd w => .cmd (encodeCommand (.illegal w))
  | .rd size off => .bus (.read size off)
  | .wr size off value => .bus (.write size off value)
  | .setLow => .drv (encodeDrvOp .setLow)
  | .setHigh => .drv (encodeDrvOp .setHigh)
  | .acquire => .drv (encodeDrvOp .acquire)
  | .release => .drv (encodeDrvOp .release)
  | .hold d => .uop (encodeMicroOp (.hold d))

/-- The format of an encoding. -/
def Encoded.format : Encoded → Format
  | .cmd _ => .cmd
  | .bus _ => .bus
  | .drv _ => .drv
  | .uop _ => .uop

/-- The number an encoding's bytes hold, least significant byte first. -/
def Encoded.toNat : Encoded → Nat
  | .cmd w => w.toNat
  | .drv op => op.toNat
  | .uop w => w.toNat
  | .bus (.read size off) => 0x52 + 2 ^ 8 * size.toNat + 2 ^ 16 * off.toNat
  | .bus (.write size off data) => 0x57 + 2 ^ 8 * size.toNat + 2 ^ 16 * off.toNat + 2 ^ 48 * data.toNat

/-- The bytes of an encoding, lowest address first. -/
def encodeBytes (e : Encoded) : List Byte := bytesOfNat e.format.bytes e.toNat

end Sys2Proof
end

