-- ==== Sys2Proof/Machine/Encoder.lean ====
section
/-! DEFINITION. The bit encoder and the widening rule as functions of numbers (41_bit_encoder.md). The
ENCODE step on the state is in Operands.lean. -/

namespace Sys2Proof.Machine

/-- `bitlen(v)`: the number of binary digits of `v` without leading zeros (00_scope.md R9). -/
def bitlen (v : Nat) : Nat := if v = 0 then 0 else Nat.log2 v + 1

/-- L, the length of the digit string, from the code's bit length `w` and the bit length `B` (R111). -/
def digitCount (w B : Nat) : Nat := if w > B + Config.padExtra then w - Config.padExtra else B

/-- S[i] is '1', for a digit string of `len` characters of `code` (R112). -/
def digitIsOne (code : Code) (len i : Nat) : Bool := code.getLsbD (len - 1 - i)

/-- Does the code widen the bit length? The comparison is strict (R114). -/
def widens (code : Code) : Bool := decide (code.toNat > Config.widenThreshold)

/-- The bit length after the widening step (R114). -/
def widenedBitlen (code : Code) (bitlen : Word) : Word :=
  if widens code then BitVec.ofNat 32 Config.widenTo else bitlen

/-- The digit string of R112 as characters, most significant first. The block does not store it
(10_state.md R37); the statements about the encoder are made over it. -/
def digitString (code : Code) (len : Nat) : List Char :=
  (List.range len).map fun i => if digitIsOne code len i then '1' else '0'

/-- The source's own algorithm (R110): format in base 2, zero-padded to `bitLength + 2` characters, and drop
the first two characters. The block does not run it; statements compare `digitString` with it. -/
def sourceDigits (code bitLength : Nat) : List Char :=
  let digits := Nat.toDigits 2 code
  (List.replicate (bitLength + Config.padExtra - digits.length) '0' ++ digits).drop Config.padExtra

end Sys2Proof.Machine
end

