-- ==== Sys2Proof/Machine/Lut.lean ====
section
/-! DEFINITION. The protocol LUT (40_protocol_lut.md). -/

namespace Sys2Proof.Machine

/-- One entry of the LUT (10_state.md R33; field widths: 30_encoding.md R74). -/
structure LutEntry where
  unit : BitVec 16
  syncH : BitVec 8
  syncL : BitVec 8
  zeroH : BitVec 8
  zeroL : BitVec 8
  oneH : BitVec 8
  oneL : BitVec 8
deriving DecidableEq, Repr

/-- The six rows of R100. -/
def lutRows : Vector LutEntry 6 :=
  #v[⟨350, 1, 31, 1, 3, 3, 1⟩,
     ⟨650, 1, 10, 1, 2, 2, 1⟩,
     ⟨100, 30, 71, 4, 11, 9, 6⟩,
     ⟨380, 1, 6, 1, 3, 3, 1⟩,
     ⟨500, 6, 14, 1, 2, 2, 1⟩,
     ⟨200, 1, 10, 1, 5, 1, 1⟩]

/-- Row `i` of R100. -/
def lutEntry (i : Fin 6) : LutEntry := lutRows[i]

/-- `zeroPair(idx)` (R103). -/
def zeroPair (i : Fin 6) : BitVec 8 × BitVec 8 := ((lutEntry i).zeroH, (lutEntry i).zeroL)

/-- `onePair(idx)` (R103). -/
def onePair (i : Fin 6) : BitVec 8 × BitVec 8 := ((lutEntry i).oneH, (lutEntry i).oneL)

/-- `syncPair(idx)` (R103). -/
def syncPair (i : Fin 6) : BitVec 8 × BitVec 8 := ((lutEntry i).syncH, (lutEntry i).syncL)

/-- LUT_W0: UNIT, SYNC_H, SYNC_L from the low end (R104, 30_encoding.md R74). -/
def lutWord0 (i : Fin 6) : Word := (lutEntry i).syncL ++ (lutEntry i).syncH ++ (lutEntry i).unit

/-- LUT_W1: ZERO_H, ZERO_L, ONE_H, ONE_L from the low end (R104, 30_encoding.md R74). -/
def lutWord1 (i : Fin 6) : Word :=
  (lutEntry i).oneL ++ (lutEntry i).oneH ++ (lutEntry i).zeroL ++ (lutEntry i).zeroH

end Sys2Proof.Machine
end

