-- ==== Sys2Proof/Machine/Waveform.lean ====
section
/-! DEFINITION. The micro-operation lists: what a SEND sends (42_waveform_transmitter.md R131 to R137) and
how UOPS is read at an index. -/

namespace Sys2Proof.Machine

/-- `c × P` microseconds, exact: it is below 2^40 (R134). -/
def holdFor (count : BitVec 8) (pulse : Word) : MicroOp :=
  .hold (BitVec.ofNat 41 (count.toNat * pulse.toNat))

/-- The pulse pair of bit position `b`, with the guard policy (R132). -/
def pairOf (p : SendPlan) (b : Nat) : BitVec 8 × BitVec 8 :=
  if b < p.llen.toNat ∧ digitIsOne p.code p.llen.toNat b = false then zeroPair p.proto else onePair p.proto

/-- The waveform of a pulse pair: SET_HIGH; HOLD(h × P); SET_LOW; HOLD(l × P) (R133). -/
def waveform (pair : BitVec 8 × BitVec 8) (pulse : Word) : List MicroOp :=
  [.drv .setHigh, holdFor pair.1 pulse, .drv .setLow, holdFor pair.2 pulse]

/-- The inter-repeat gap (R135). -/
def gap : MicroOp := .hold (BitVec.ofNat 41 Config.gapUs)

/-- One repeat: the bits in increasing position, the sync, the gap (R131, R136). -/
def frameOps (p : SendPlan) : List MicroOp :=
  (List.range p.txlen.toNat).flatMap (fun b => waveform (pairOf p b) p.pulse)
    ++ waveform (syncPair p.proto) p.pulse ++ [gap]

/-- BuildSend, materialised as R136 writes it. The machine uses `sendEntry` instead; the two are compared
by a statement. -/
def buildSend (p : SendPlan) : List MicroOp :=
  (List.replicate p.repeats.toNat (frameOps p)).flatten

/-- K, the number of micro-operations of one repeat (R137). -/
def frameLen (p : SendPlan) : Nat := 4 * (p.txlen.toNat + 1) + 1

/-- The number of micro-operations of a SEND (R136). -/
def sendLen (p : SendPlan) : Nat := p.repeats.toNat * frameLen p

/-- Phase 0 to 3 of a waveform (R137). -/
def waveformPhase (pair : BitVec 8 × BitVec 8) (pulse : Word) (phase : Nat) : MicroOp :=
  if phase = 0 then .drv .setHigh
  else if phase = 1 then holdFor pair.1 pulse
  else if phase = 2 then .drv .setLow
  else holdFor pair.2 pulse

/-- Entry `k` of BuildSend in closed form (R137). -/
def sendEntry (p : SendPlan) (k : Nat) : MicroOp :=
  let j := k % frameLen p
  if j < 4 * p.txlen.toNat then waveformPhase (pairOf p (j / 4)) p.pulse (j % 4)
  else if j < 4 * p.txlen.toNat + 4 then
    waveformPhase (syncPair p.proto) p.pulse (j - 4 * p.txlen.toNat)
  else gap

/-- The length of UOPS. -/
def uopCount : UopList → Nat
  | .words ws => ws.length
  | .send p => sendLen p

/-- The word UOPS[k], if the list has one. -/
def uopAt : UopList → Nat → Option UopWord
  | .words ws, k => ws[k]?
  | .send p, k => if k < sendLen p then some (encodeMicroOp (sendEntry p k)) else none

/-- How long a waveform lasts on the reference hardware, in microseconds (R144 D(b), Dsync). -/
def pairTime (pair : BitVec 8 × BitVec 8) (pulse : Word) : Nat :=
  (pair.1.toNat + pair.2.toNat) * pulse.toNat

/-- F, how long one repeat lasts on the reference hardware (R144). -/
def frameTime (p : SendPlan) : Nat :=
  ((List.range p.txlen.toNat).map fun b => pairTime (pairOf p b) p.pulse).sum
    + pairTime (syncPair p.proto) p.pulse + Config.gapUs

end Sys2Proof.Machine
end

