-- ==== Sys2Proof/Machine/Operands.lean ====
section
/-! DEFINITION. Operand assembly of the commands (30_encoding.md R73) and the ENCODE step (41_bit_encoder.md
R116). Operands are read at the instant of acceptance. -/

namespace Sys2Proof.Machine

/-- INIT's 0-based index `ARG_PROTO − 1`, taken over the integers and checked to be 0 to 5 (R73;
43_device_commands.md R167). -/
def initIndex (proto1 : Word) : Option (Fin 6) :=
  let idx : Int := (proto1.toNat : Int) - 1
  if h : 0 ≤ idx ∧ idx < 6 then some ⟨idx.toNat, by omega⟩ else none

/-- The operands of an accepted INIT, latched (R73; 43_device_commands.md R165; log 7). -/
def latchInit (idx : Fin 6) (s : State) : State :=
  { s with latProto := idx, latRepeat := s.argRepeat, latPulse := s.argPulse, latBitlen := s.argBitlen }

/-- The new device's registers, from the latched operands (43_device_commands.md R165). -/
def writeDevice (s : State) : State :=
  { s with devProto := s.latProto, devRepeat := s.latRepeat, devPulse := s.latPulse, devBitlen := s.latBitlen }

/-- SEND's operand CODE_HI : CODE_LO (R73; 10_state.md R30). -/
def codeOperand (s : State) : Code := s.codeHi ++ s.codeLo

/-- ENCODE (41_bit_encoder.md R116): LLEN from the old bit length, then the widening, then TXLEN. -/
def encodeStep (s : State) : State :=
  let len := digitCount (bitlen s.lcode.toNat) s.devBitlen.toNat
  let widened := widenedBitlen s.lcode s.devBitlen
  { s with llen := BitVec.ofNat 33 len, devBitlen := widened, txlen := widened }

/-- The latched values BuildSend is called with (43_device_commands.md R168). -/
def sendPlanOf (s : State) : SendPlan :=
  { proto := s.devProto, pulse := s.devPulse, repeats := s.devRepeat, code := s.lcode,
    llen := s.llen, txlen := s.txlen }

end Sys2Proof.Machine
end

