-- ==== Sys2Proof/Machine/Ops.lean ====
section
/-! DEFINITION. The named operations every meaning is built from: ending a command (the block's only form of
taking an error), the environment's draws, the driver operation, and the sequencer's advance. -/

namespace Sys2Proof.Machine

/-! ### Errors and the return from them (60_exceptions.md)

The block has no trap and no return from one (R207, R208): an error is a result code, and the block goes back
to idle in the same operation. -/

/-- `finish(code)` (R200). -/
def finish (code : ResultCode) (s : State) : State :=
  { s with result := code, busy := false, curCmd := .none, uops := .words [], seqIdx := 0 }

/-- BusError: the access has no effect but the response (R203; 20_memory.md R55; log 6). -/
def busError (off : BitVec 32) (s : State) : State := { s with resp := .busError off }

/-- A performed write is acknowledged (20_memory.md R53; log 6). -/
def writeDone (s : State) : State := { s with resp := .written }

/-- A performed read gives its value (20_memory.md R52; log 6). -/
def readDone (value : Word) (s : State) : State := { s with resp := .data value }

/-! ### The environment's draws -/

/-- The backend's next answer (44_gpio_output.md R190, log 2). -/
def nextAnswer (s : State) : Answer :=
  match s.answers with
  | a :: _ => a
  | [] => Config.backendAnswer s.drvCount

/-- That answer is used up. -/
def takeAnswer (s : State) : State := { s with answers := s.answers.tail, drvCount := s.drvCount + 1 }

/-- The next slack or latency draw, in 0 to `bound` (42_waveform_transmitter.md R138, R139; log 3). With the
reference hardware's bound 0 it is 0 whatever the environment would say. -/
def nextDelay (bound : Nat) (s : State) : Nat :=
  if bound = 0 then 0
  else
    match s.delays with
    | d :: _ => min d bound
    | [] => min (Config.delayDraw s.delayCount) bound

/-- That draw is used up. -/
def takeDelay (s : State) : State := { s with delays := s.delays.tail, delayCount := s.delayCount + 1 }

/-- Time moves by one draw of at most `bound` on top of `dur` microseconds. -/
def passTime (dur bound : Nat) (s : State) : State :=
  { takeDelay s with time := s.time + dur + nextDelay bound s }

/-! ### The driver (44_gpio_output.md R191, R193, R194) -/

/-- What a driver operation does to LINE when the backend answers `ok`. -/
def driveLine (op : DrvOp) (s : State) : State :=
  match op with
  | .setLow => { s with lineLevel := false }
  | .setHigh => { s with lineLevel := true }
  | .acquire => { s with lineOwned := true, lineLevel := false }
  | .release => { s with lineOwned := false }

/-- `emit((t, op, res))` (42_waveform_transmitter.md R141). -/
def emitEvent (op : DrvOp) (res : Answer) (s : State) : State :=
  { s with trace := s.trace ++ [{ time := s.time, op := op, res := res }] }

/-- One driver operation: the latency draw, the one answer, the trace event, and LINE on `ok`
(42_waveform_transmitter.md R139; 44_gpio_output.md R191, R193, R194, R196). The caller learns the answer
from `nextAnswer` of the state before. Latency of ACQUIRE and RELEASE: log 5. -/
def driverOp (op : DrvOp) (s : State) : State :=
  let res := nextAnswer s
  let after := emitEvent op res (takeAnswer (passTime 0 s.params.setLatencyUs s))
  match res with
  | .ok => driveLine op after
  | .err => after

/-! ### The sequencer (42_waveform_transmitter.md R140, R142) -/

/-- After a completed micro-operation: SEQ_IDX moves by one, and the command finishes OK when SEQ_IDX
reaches the length of UOPS (R142, log 10). -/
def seqAdvance (s : State) : State :=
  if s.seqIdx + 1 < uopCount s.uops then { s with seqIdx := s.seqIdx + 1 } else finish .ok s

/-- A SET_HIGH or SET_LOW of a SEND (R139), or its abort (R140). -/
def transmitSet (op : DrvOp) (s : State) : State :=
  match nextAnswer s with
  | .ok => seqAdvance (driverOp op s)
  | .err => finish .errIo (driverOp op s)

/-- HOLD(d): TIMER <- d, time passes, TIMER <- 0 (R138, log 9). -/
def holdFully (d : Duration) (s : State) : State :=
  let loaded := { s with timer := d }
  { passTime loaded.timer.toNat loaded.params.holdSlackUs loaded with timer := 0#41 }

/-! ### Command issue (43_device_commands.md R162) -/

/-- The start of an accepted command with micro-operations: BUSY, CUR_CMD, UOPS, and SEQ_IDX at 0
(R165, R168, R174; 10_state.md R21, log 11). -/
def startSequence (cmd : CurCmd) (ops : UopList) (s : State) : State :=
  { s with busy := true, curCmd := cmd, uops := ops, seqIdx := 0 }

/-- IssueCommand: rejected while BUSY, else REJECT is cleared and the command starts (R162, R163). -/
def issueCommand (start : State → State) (s : State) : State :=
  if s.busy then { s with reject := true } else start { s with reject := false }

/-- StartInit, up to the sequencer's ACQUIRE (R165, R166, R167). -/
def startInit (s : State) : State :=
  if s.lifecycle = .enabled ∨ s.lineOwned = true then finish .errLineOwned s
  else
    match initIndex s.argProto with
    | none => finish .errBadProtocol s
    | some idx => startSequence .init (.words [encodeMicroOp (.drv .acquire)]) (latchInit idx s)

/-- StartSend (R168, R169, R170). -/
def startSend (s : State) : State :=
  if s.lifecycle ≠ .enabled then finish .errNotInit s
  else
    let encoded := encodeStep { s with lcode := codeOperand s }
    let plan := sendPlanOf encoded
    if sendLen plan = 0 then finish .ok encoded
    else startSequence .send (.send plan) encoded

/-- StartCleanup, up to the sequencer's RELEASE (R174, R177). -/
def startCleanup (s : State) : State :=
  match s.lifecycle with
  | .none => finish .errNotInit s
  | .disabled => finish .errDoubleTeardown s
  | .enabled => startSequence .cleanup (.words [encodeMicroOp (.drv .release)]) s

/-- An illegal command word (R164). -/
def startIllegal (s : State) : State := finish .errBadCmd s

/-- The lifecycle state RELEASE_FAIL_STATE stands for (R176). -/
def failedReleaseState : ReleaseFailState → Lifecycle
  | .enabled => .enabled
  | .disabled => .disabled

/-! ### Reset (70_reset_and_hazards.md R230, R232) -/

/-- RST: every state element of the block takes its reset value. Time, the environment's lists and the
parameters are not the block's and stay (log 12). -/
def applyReset (s : State) : State :=
  { State.reset with
    time := s.time, inputs := s.inputs, answers := s.answers, drvCount := s.drvCount,
    delays := s.delays, delayCount := s.delayCount, params := s.params }

end Sys2Proof.Machine
end

