-- ==== Sys2Proof/Machine/Window.lean ====
section
/-! DEFINITION. The register window: offsets, reads and writes (20_memory.md R50 to R57). -/

namespace Sys2Proof.Machine

/-- The offset of a register (R51). -/
def regOffset : Reg → Nat
  | .cmd => 0x00
  | .status => 0x04
  | .argProto => 0x08
  | .argRepeat => 0x0C
  | .argPulse => 0x10
  | .argBitlen => 0x14
  | .codeLo => 0x18
  | .codeHi => 0x1C
  | .devProto => 0x20
  | .devRepeat => 0x24
  | .devPulse => 0x28
  | .devBitlen => 0x2C
  | .line => 0x30
  | .lutW0 i => 0x40 + 8 * i.val
  | .lutW1 i => 0x44 + 8 * i.val

/-- The registers of the window, in the order of their offsets (R51). -/
def windowRegs : List Reg :=
  [.cmd, .status, .argProto, .argRepeat, .argPulse, .argBitlen, .codeLo, .codeHi,
   .devProto, .devRepeat, .devPulse, .devBitlen, .line,
   .lutW0 0, .lutW1 0, .lutW0 1, .lutW1 1, .lutW0 2, .lutW1 2,
   .lutW0 3, .lutW1 3, .lutW0 4, .lutW1 4, .lutW0 5, .lutW1 5]

/-- The register at an offset; none where the offset is reserved (R51, R54). -/
def regAt (off : Nat) : Option Reg := windowRegs.find? fun r => regOffset r == off

/-- What a register reads as (R51, R52; CMD reads 0, R54). -/
def readReg (s : State) : Reg → Word
  | .cmd => 0#32
  | .status => statusWord s
  | .argProto => s.argProto
  | .argRepeat => s.argRepeat
  | .argPulse => s.argPulse
  | .argBitlen => s.argBitlen
  | .codeLo => s.codeLo
  | .codeHi => s.codeHi
  | .devProto => BitVec.ofNat 32 s.devProto.val
  | .devRepeat => s.devRepeat
  | .devPulse => s.devPulse
  | .devBitlen => s.devBitlen
  | .line => lineWord s
  | .lutW0 i => lutWord0 i
  | .lutW1 i => lutWord1 i

/-- A write of a register that only stores: the six argument and code registers; the others ignore it
(R53, R54). CMD's write is a command issue and is not here. -/
def storeReg (v : Word) (s : State) : Reg → State
  | .argProto => { s with argProto := v }
  | .argRepeat => { s with argRepeat := v }
  | .argPulse => { s with argPulse := v }
  | .argBitlen => { s with argBitlen := v }
  | .codeLo => { s with codeLo := v }
  | .codeHi => { s with codeHi := v }
  | _ => s

/-- MemRead(off, 4): reserved offsets read 0 (R52, R54). -/
def memRead (s : State) (off : Nat) : Word :=
  match regAt off with
  | some r => readReg s r
  | none => 0#32

/-- MemWrite(off, 4, v): reserved offsets ignore it (R53, R54). -/
def memWrite (off : Nat) (v : Word) (s : State) : State :=
  match regAt off with
  | some r => storeReg v s r
  | none => s

/-- The one access form the block accepts (R55). -/
def accessOk (size : BitVec 8) (off : BitVec 32) : Bool :=
  decide (size.toNat = 4 ∧ off.toNat % 4 = 0 ∧ off.toNat < Config.windowSize)

/-- The byte of the window at offset `a`: byte `k` of a register is its bits 8k+7..8k (R56). -/
def windowByte (s : State) (a : Nat) : Byte := (memRead s (a - a % 4)).extractLsb' (8 * (a % 4)) 8

end Sys2Proof.Machine
end

