-- ==== Sys2Proof/Machine/Commands.lean ====
section
/-! DEFINITION. The meanings of the four command words (43_device_commands.md). Each is the host's write of
that word to CMD, so the write is acknowledged whether or not the command is rejected (log 6). -/

namespace Sys2Proof.Machine

/-- INIT, word 0x00000001 (R162, R165 to R167). -/
def execInit (s : State) : Host.Outcome State Fault Refusal :=
  .next (writeDone (issueCommand startInit s))

/-- SEND, word 0x00000002 (R162, R168 to R170). -/
def execSend (s : State) : Host.Outcome State Fault Refusal :=
  .next (writeDone (issueCommand startSend s))

/-- CLEANUP, word 0x00000003 (R162, R174, R177). -/
def execCleanup (s : State) : Host.Outcome State Fault Refusal :=
  .next (writeDone (issueCommand startCleanup s))

/-- ILLEGAL_CMD, any other word; the word itself selects nothing more (R162, R164; 30_encoding.md R72). -/
def execIllegalCmd (_word : Word) (s : State) : Host.Outcome State Fault Refusal :=
  .next (writeDone (issueCommand startIllegal s))

/-- The command a decoded word runs (R162). -/
def runCommand (c : Command) (s : State) : Host.Outcome State Fault Refusal :=
  match c with
  | .init => execInit s
  | .send => execSend s
  | .cleanup => execCleanup s
  | .illegal w => execIllegalCmd w s

end Sys2Proof.Machine
end

