-- ==== Sys2Proof/Machine/Bus.lean ====
section
/-! DEFINITION. The meanings of the host's bus accesses (20_memory.md R52, R53). -/

namespace Sys2Proof.Machine

/-- RD (R52): a read changes nothing but the response. -/
def execRd (size : BitVec 8) (off : BitVec 32) (s : State) : Host.Outcome State Fault Refusal :=
  if accessOk size off then .next (readDone (memRead s off.toNat) s) else .next (busError off s)

/-- WR (R53): a write to CMD is a command issue, a write to an argument or code register stores, any other
is ignored. -/
def execWr (size : BitVec 8) (off : BitVec 32) (value : Word) (s : State) :
    Host.Outcome State Fault Refusal :=
  if accessOk size off then
    if off.toNat = regOffset .cmd then runCommand (decodeCommand value) s
    else .next (writeDone (memWrite off.toNat value s))
  else .next (busError off s)

end Sys2Proof.Machine
end

