-- ==== Sys2Proof/Machine/Driver.lean ====
section
/-! DEFINITION. The meanings of the four driver operations, as the sequencer issues them
(44_gpio_output.md R191, R193, R194; 42_waveform_transmitter.md R139, R140; 43_device_commands.md R165,
R174 to R176). -/

namespace Sys2Proof.Machine

/-- SET_LOW of a SEND (R139, R191). -/
def execSetLow (s : State) : Host.Outcome State Fault Refusal := .next (transmitSet .setLow s)

/-- SET_HIGH of a SEND (R139, R191). -/
def execSetHigh (s : State) : Host.Outcome State Fault Refusal := .next (transmitSet .setHigh s)

/-- What an INIT does with the answer to its ACQUIRE (R165): on `ok` the device's registers, ENABLED and OK;
on `err` ERR_ACQUIRE with STATE and DEV_* unchanged. -/
def endInit (s : State) : State :=
  match nextAnswer s with
  | .ok => finish .ok { writeDevice (driverOp .acquire s) with lifecycle := .enabled }
  | .err => finish .errAcquire (driverOp .acquire s)

/-- ACQUIRE, issued only by INIT (R193, R165). -/
def execAcquire (s : State) : Host.Outcome State Fault Refusal := .next (endInit s)

/-- What a CLEANUP does with the answer to its RELEASE (R174 to R176). -/
def endCleanup (s : State) : State :=
  match nextAnswer s with
  | .ok => finish .ok { driverOp .release s with lifecycle := .disabled }
  | .err =>
    finish .errRelease
      { driverOp .release s with lifecycle := failedReleaseState s.params.releaseFailState }

/-- RELEASE, issued only by CLEANUP (R194, R174). -/
def execRelease (s : State) : Host.Outcome State Fault Refusal := .next (endCleanup s)

end Sys2Proof.Machine
end

