-- ==== Sys2Proof/Machine/Timer.lean ====
section
/-! DEFINITION. The meaning of the hold micro-operation (42_waveform_transmitter.md R138). -/

namespace Sys2Proof.Machine

/-- HOLD(d) of a SEND: the hold, then the sequencer's advance (R138, R142). A duration above the greatest one a
command generates is held like any other (log 23). -/
def execHold (dur : Duration) (s : State) : Host.Outcome State Fault Refusal :=
  .next (seqAdvance (holdFully dur s))

end Sys2Proof.Machine
end

