-- ==== Sys2Proof/Machine/Dispatch.lean ====
section
/-! DEFINITION. One arm per instruction. -/

namespace Sys2Proof.Machine

def exec (i : Instr) (s : State) : Host.Outcome State Fault Refusal :=
  match i with
  | .init => Sys2Proof.Machine.execInit s
  | .send => Sys2Proof.Machine.execSend s
  | .cleanup => Sys2Proof.Machine.execCleanup s
  | .illegalCmd w => Sys2Proof.Machine.execIllegalCmd w s
  | .rd size off => Sys2Proof.Machine.execRd size off s
  | .wr size off value => Sys2Proof.Machine.execWr size off value s
  | .setLow => Sys2Proof.Machine.execSetLow s
  | .setHigh => Sys2Proof.Machine.execSetHigh s
  | .acquire => Sys2Proof.Machine.execAcquire s
  | .release => Sys2Proof.Machine.execRelease s
  | .hold dur => Sys2Proof.Machine.execHold dur s

end Sys2Proof.Machine
end

