-- ==== Sys2Proof/Machine/Agents.lean ====
section
/-! DEFINITION. Who moves: the host's turn, the sequencer's turn, and how an instruction is put where the
next step finds it. -/

namespace Sys2Proof.Machine

/-- The sequencer's turn (42_waveform_transmitter.md R142; 10_state.md R21): while BUSY = 1 it decodes and
performs UOPS[SEQ_IDX]; a SEND with no entry left finishes OK. While BUSY = 0 the block is idle and keeps all
state (60_exceptions.md R215). -/
def sequencerTurn (s : State) : Host.Outcome State Fault Refusal :=
  if s.busy then
    match uopAt s.uops s.seqIdx with
    | some w =>
      match decode (.uop w) with
      | .ok i => exec i s
      | .rejected _ => .refused (.undecodedMicroOp w)
    | none => if s.curCmd = .send then .next (finish .ok s) else .fault .lostMicroOp
  else .next s

/-- The host performs one bus cycle (20_memory.md R59). -/
def hostTurn (c : BusCycle) (s : State) : Host.Outcome State Fault Refusal := exec c.toInstr s

/-- The command that issues a driver operation (44_gpio_output.md R192 to R194). -/
def issuerOf : MicroOp → CurCmd
  | .drv .acquire => .init
  | .drv .release => .cleanup
  | _ => .send

/-- The sequencer has the next turn, and its list is this one word. -/
def placeMicroOp (cmd : CurCmd) (w : UopWord) (s : State) : State :=
  { startSequence cmd (.words [w]) s with inputs := .tick :: s.inputs }

/-- The host performs this cycle next. -/
def placeBusCycle (c : BusCycle) (s : State) : State := { s with inputs := .bus c :: s.inputs }

/-- An encoded instruction is put where the next step takes it: a command word as a write to CMD, a driver
operation as the micro-operation with that DRV_OP (30_encoding.md R70, R78; log 13). -/
def placeEncoded (e : Encoded) (s : State) : State :=
  match e with
  | .cmd w => placeBusCycle (.write 4#8 (BitVec.ofNat 32 (regOffset .cmd)) w) s
  | .bus c => placeBusCycle c s
  | .drv op => placeMicroOp (issuerOf (.drv (decodeDrvOp op))) (encodeMicroOp (.drv (decodeDrvOp op))) s
  | .uop w =>
    match decodeMicroOp w with
    | .ok m => placeMicroOp (issuerOf m) w s
    | .error _ => placeMicroOp .send w s

end Sys2Proof.Machine
end

