-- ==== Sys2Proof/Machine/Step.lean ====
section
/-! DEFINITION. One step: the next input decides who moves (log 1). -/

namespace Sys2Proof.Machine

/-- One step of the machine: a host access, a reset, or the sequencer's turn; with no input left the
sequencer goes on alone. -/
def step (s : State) : Host.Outcome State Fault Refusal :=
  match s.inputs with
  | [] => sequencerTurn s
  | .tick :: rest => sequencerTurn { s with inputs := rest }
  | .bus c :: rest => hostTurn c { s with inputs := rest }
  | .rst :: rest => .next (applyReset { s with inputs := rest })

/-- `s` with one instruction placed so that the very next step runs it (log 13). An encoding that is none of
the table's changes nothing. -/
def State.withFetchWord (s : State) (nbits w : Nat) : State :=
  match encodedOfTableWord nbits w with
  | .ok e => placeEncoded e s
  | .error _ => s

end Sys2Proof.Machine
end

