-- ==== Sys2Proof/Safety.lean ====
section
/-! DEFINITION. What a good state and a good run are: the invariants of 10_state.md R39, and what TRACE says
of the line (42_waveform_transmitter.md R141, R144). -/

namespace Sys2Proof.Machine

/-- The invariants of R39, with the sequencer's own: what UOPS and SEQ_IDX are while each command runs. -/
structure GoodState (s : State) : Prop where
  /-- R39 (a), first half. -/
  enabledOwnsLine : s.lifecycle = .enabled → s.lineOwned = true
  /-- R39 (a), second half: only a failed RELEASE under RELEASE_FAIL_STATE = DISABLED leaves the line owned
  without an enabled device. -/
  ownedElsewhere : s.lineOwned = true → s.lifecycle ≠ .enabled →
    s.lifecycle = .disabled ∧ s.params.releaseFailState = .disabled
  /-- R39 (b). -/
  busyHasCommand : s.busy = true → s.curCmd ≠ .none
  /-- R39 (c), with SEQ_IDX (60_exceptions.md R200). -/
  idleIsClear : s.busy = false → s.curCmd = .none ∧ s.uops = .words [] ∧ s.seqIdx = 0
  /-- R39 (d). -/
  noDeviceIsZero : s.lifecycle = .none →
    s.devProto = 0 ∧ s.devRepeat = 0#32 ∧ s.devPulse = 0#32 ∧ s.devBitlen = 0#32
  /-- Between steps no hold is running (R138). -/
  timerIdle : s.timer = 0#41
  /-- A running INIT is at its one ACQUIRE (43_device_commands.md R165). -/
  initAcquires : s.curCmd = .init →
    s.uops = .words [encodeMicroOp (.drv .acquire)] ∧ s.seqIdx = 0 ∧
      s.lifecycle ≠ .enabled ∧ s.lineOwned = false
  /-- A running SEND is inside the list of its latched values, on an enabled device (R168, R142). -/
  sendTransmits : s.curCmd = .send →
    s.uops = .send (sendPlanOf s) ∧ s.seqIdx < sendLen (sendPlanOf s) ∧
      s.lifecycle = .enabled ∧ s.txlen = s.devBitlen
  /-- A running CLEANUP is at its one RELEASE (R174). -/
  cleanupReleases : s.curCmd = .cleanup →
    s.uops = .words [encodeMicroOp (.drv .release)] ∧ s.seqIdx = 0 ∧ s.lifecycle = .enabled

/-- What a command that ends at its acceptance leaves: REJECT 0, its result and an idle sequencer
(43_device_commands.md R162; 60_exceptions.md R200). -/
def endedAtIssue (code : ResultCode) (s : State) : State :=
  { s with
    reject := false, result := code, busy := false, curCmd := .none, uops := .words [], seqIdx := 0 }

/-- `d` is a draw of at most `bound` that the environment may give next: in 0 to `bound`
(42_waveform_transmitter.md R138, R139), and the listed one where it is in that range (log 3). -/
def IsDraw (bound d : Nat) (s : State) : Prop :=
  d ≤ bound ∧ ∀ x rest, s.delays = x :: rest → x ≤ bound → d = x

/-- What one driver operation leaves, answered `res` after a latency of `lat`, LINE apart: time moved by the
latency, one event with the answer, and the answer and the draw used up (42_waveform_transmitter.md R139,
R141). -/
def answered (op : DrvOp) (res : Answer) (lat : Nat) (s : State) : State :=
  { s with
    time := s.time + lat
    trace := s.trace ++ [{ time := s.time + lat, op := op, res := res }]
    answers := s.answers.tail, drvCount := s.drvCount + 1
    delays := s.delays.tail, delayCount := s.delayCount + 1 }

/-- A block that is idle with this result (60_exceptions.md R200). -/
def idleWith (code : ResultCode) (s : State) : State :=
  { s with result := code, busy := false, curCmd := .none, uops := .words [], seqIdx := 0 }

/-- What one event of TRACE does to LINE (44_gpio_output.md R191, R193, R194), as (LEVEL, OWNED). -/
def lineAfterEvent (line : Bool × Bool) (ev : DrvEvent) : Bool × Bool :=
  match ev.res, ev.op with
  | .err, _ => line
  | .ok, .setLow => (false, line.2)
  | .ok, .setHigh => (true, line.2)
  | .ok, .acquire => (false, true)
  | .ok, .release => (line.1, false)

/-- LINE after a trace, from reset. -/
def lineAfter (trace : List DrvEvent) : Bool × Bool := trace.foldl lineAfterEvent (false, false)

/-- LINE shows what the trace says. -/
def LineMatchesTrace (s : State) : Prop := (s.lineLevel, s.lineOwned) = lineAfter s.trace

/-- The events of the trace are in order of time, and none is later than now (R141). -/
def TraceOrdered (s : State) : Prop :=
  s.trace.Pairwise (fun a b => a.time ≤ b.time) ∧ ∀ ev ∈ s.trace, ev.time ≤ s.time

/-- The level the last `ok` SET event at or before `t` set, if there was one (R141). -/
def levelAt (trace : List DrvEvent) (t : Nat) : Option Bool :=
  trace.foldl (fun level ev =>
    match ev.res, ev.op with
    | .ok, .setHigh => if ev.time ≤ t then some true else level
    | .ok, .setLow => if ev.time ≤ t then some false else level
    | _, _ => level) none

/-- The two events of a waveform that starts at `t` (R133, R144). -/
def waveformEvents (pair : BitVec 8 × BitVec 8) (pulse : Word) (t : Nat) : List DrvEvent :=
  [{ time := t, op := .setHigh, res := .ok },
   { time := t + pair.1.toNat * pulse.toNat, op := .setLow, res := .ok }]

/-- When bit position `b` of a repeat starts, from the repeat's start (R144). -/
def bitStart (p : SendPlan) (b : Nat) : Nat :=
  ((List.range b).map fun b' => pairTime (pairOf p b') p.pulse).sum

/-- The events of one repeat that starts at `t` (R144). -/
def frameEvents (p : SendPlan) (t : Nat) : List DrvEvent :=
  (List.range p.txlen.toNat).flatMap (fun b => waveformEvents (pairOf p b) p.pulse (t + bitStart p b))
    ++ waveformEvents (syncPair p.proto) p.pulse (t + bitStart p p.txlen.toNat)

/-- The events of a SEND accepted at `t0`, on the reference hardware with every answer `ok` (R144). -/
def sendEvents (p : SendPlan) (t0 : Nat) : List DrvEvent :=
  (List.range p.repeats.toNat).flatMap fun r => frameEvents p (t0 + r * frameTime p)

/-- The parameters of the reference hardware (00_scope.md R7). -/
def ReferenceHardware (s : State) : Prop := s.params.holdSlackUs = 0 ∧ s.params.setLatencyUs = 0

end Sys2Proof.Machine
end

