-- ==== Sys2Proof/Certificates/Slice0/Obligations.lean ====
section
/-! DEFINITION. The statements for the provers. Those over one instruction give the whole next state as a
record update, so they are its result, its frame and its completion at once. -/

open Sys2Proof Sys2Proof.Machine

/-! ### Reset, step and encodings -/

/-- R230: after RST every state element holds the reset value 10_state.md gives it, the LUT reads as before,
and `State.reset` is such a state. That time, the lists and the parameters stay is the model's choice
(log 12), and so is the reset value of the latches and the response (log 6, log 7). -/
def Obligations.ResetLeavesSpecifiedValues : Prop :=
  (∀ (s : State) (rest : List Input), s.inputs = .rst :: rest →
    step s =
      .next { State.reset with
        time := s.time, inputs := rest, answers := s.answers, drvCount := s.drvCount
        delays := s.delays, delayCount := s.delayCount, params := s.params }) ∧
  (∀ off ∈ [0x00, 0x04, 0x08, 0x0C, 0x10, 0x14, 0x18, 0x1C, 0x20, 0x24, 0x28, 0x2C, 0x30],
    memRead State.reset off = 0#32) ∧
  (∀ s off, 0x40 ≤ off → off < 0x70 → memRead State.reset off = memRead s off) ∧
  State.reset.curCmd = .none ∧ State.reset.lcode = 0#64 ∧ State.reset.llen = 0#33 ∧
  State.reset.txlen = 0#32 ∧ State.reset.uops = .words [] ∧ State.reset.seqIdx = 0 ∧
  State.reset.timer = 0#41 ∧ State.reset.trace = []

/-- The invariants hold at reset. That TRACE and LINE fit each other there is R230; the environment's fields are
log 12. -/
def Obligations.ResetMeetsInvariants : Prop :=
  GoodState State.reset ∧ LineMatchesTrace State.reset ∧ TraceOrdered State.reset

/-- A step runs the decoded instruction: a bus cycle at the head of the inputs, or, at the sequencer's turn
of a busy block, the micro-operation word at SEQ_IDX. Around `exec` the step only takes the input off the
list. -/
def Obligations.StepRunsDecodedInstruction : Prop :=
  ∀ (s : State) (i : Instr), i.wf = true →
    (∀ c rest, s.inputs = .bus c :: rest → decode (.bus c) = .ok i →
      step s = exec i { s with inputs := rest }) ∧
    (∀ w, s.busy = true → uopAt s.uops s.seqIdx = some w → decode (.uop w) = .ok i →
      (s.inputs = [] → step s = exec i s) ∧
      (∀ rest, s.inputs = .tick :: rest → step s = exec i { s with inputs := rest }))

/-- A write of a word to CMD runs the command the word decodes to, as an instruction WR and as a step (R53, R70,
R162). -/
def Obligations.WriteToCmdRunsDecodedCommand : Prop :=
  ∀ (s : State) (w : Word) (i : Instr), decode (.cmd w) = .ok i →
    exec (.wr 4#8 0#32 w) s = exec i s ∧
    (∀ rest, s.inputs = .bus (.write 4#8 0#32 w) :: rest → step s = exec i { s with inputs := rest })

/-- With no input and BUSY = 0 the block is idle and keeps all state (R215). That no time passes is log 19. -/
def Obligations.IdleBlockKeepsAllState : Prop :=
  ∀ s : State, s.busy = false →
    (s.inputs = [] → step s = .next s) ∧
    (∀ rest, s.inputs = .tick :: rest → step s = .next { s with inputs := rest })

/-- Words written out from 30_encoding.md R71, R72, R76 and R78 decode to their instructions. The last two clauses
are the model's choice: the spec gives a bus line no bytes (R80 gives only its letter, offset and data), and the
ten bytes here are log 13. -/
def Obligations.WrittenOutWordsDecode : Prop :=
  decodeTableWord 32 0x00000001 = some .init ∧
  decodeTableWord 32 0x00000002 = some .send ∧
  decodeTableWord 32 0x00000003 = some .cleanup ∧
  decodeTableWord 32 0x00000011 = some (.illegalCmd 0x00000011#32) ∧
  decodeTableWord 8 0b00 = some .setLow ∧
  decodeTableWord 8 0b01 = some .setHigh ∧
  decodeTableWord 8 0b10 = some .acquire ∧
  decodeTableWord 8 0b11 = some .release ∧
  decodeTableWord 48 0x20000000000 = some .setHigh ∧
  decodeTableWord 48 0x40000000000 = some .acquire ∧
  decodeTableWord 48 (0x80000000000 + 10850) = some (.hold 10850#41) ∧
  decodeBytes .bus [0x52, 4, 0x50, 0, 0, 0, 0, 0, 0, 0] = .ok (.rd 4#8 0x50#32) ∧
  decodeBytes .bus [0x57, 4, 0x08, 0, 0, 0, 0x03, 0, 0, 0] = .ok (.wr 4#8 0x08#32 3#32)

/-- Decode and encode agree on every well-formed instruction, as an encoding and as bytes. -/
def Obligations.DecodeOfEncodeIsInstruction : Prop :=
  ∀ i : Instr, i.wf = true →
    decode (encode i) = .ok i ∧ decodeBytes (encode i).format (encodeBytes (encode i)) = .ok i

/-- Every command word, driver code and bus cycle is the encoding of the instruction it decodes to, and a
micro-operation word that decodes is the word of the micro-operation it decodes to. A driver operation has two
encodings, its driver code and its micro-operation word. -/
def Obligations.EncodeOfDecodeIsWord : Prop :=
  (∀ w : Word, ∃ i, decode (.cmd w) = .ok i ∧ i.wf = true ∧ encode i = .cmd w) ∧
  (∀ op : BitVec 2, ∃ i, decode (.drv op) = .ok i ∧ i.wf = true ∧ encode i = .drv op) ∧
  (∀ c : BusCycle, ∃ i, decode (.bus c) = .ok i ∧ i.wf = true ∧ encode i = .bus c) ∧
  (∀ (w : UopWord) (m : MicroOp), decodeMicroOp w = .ok m → encodeMicroOp m = w)

/-- The micro-operation words by KIND. The first two clauses are the model's choice: that the decoder rejects
KIND 0b101 to 0b111, which R78 says are never generated, and a driver KIND with DUR ≠ 0 (log 14). A HOLD word
decodes with all 41 bits of its DUR, above R78's greatest duration too, which is the model's choice (log 23). The
other four are the driver words of R78. -/
def Obligations.UngeneratedMicroOpWordsAreRejected : Prop :=
  ∀ w : UopWord,
    (5 ≤ w.toNat / 2 ^ 41 → decode (.uop w) = .rejected .reservedKind) ∧
    (w.toNat / 2 ^ 41 < 4 → w.toNat % 2 ^ 41 ≠ 0 → decode (.uop w) = .rejected .nonzeroDur) ∧
    (w.toNat / 2 ^ 41 = 4 → decode (.uop w) = .ok (.hold (BitVec.ofNat 41 w.toNat))) ∧
    (w.toNat / 2 ^ 41 = 0 → w.toNat % 2 ^ 41 = 0 → decode (.uop w) = .ok .setLow) ∧
    (w.toNat / 2 ^ 41 = 1 → w.toNat % 2 ^ 41 = 0 → decode (.uop w) = .ok .setHigh) ∧
    (w.toNat / 2 ^ 41 = 2 → w.toNat % 2 ^ 41 = 0 → decode (.uop w) = .ok .acquire) ∧
    (w.toNat / 2 ^ 41 = 3 → w.toNat % 2 ^ 41 = 0 → decode (.uop w) = .ok .release)

/-! ### The window: RD and WR -/

/-- The twelve LUT words, read by RD in any state. 30_encoding.md R75, which the spec marks derived from R74 and
R100, writes them out. -/
def Obligations.LutReadsGiveTableWords : Prop :=
  ∀ s : State, ∀ p ∈ ([(0x40, 0x1F01015E), (0x44, 0x01030301), (0x48, 0x0A01028A), (0x4C, 0x01020201),
      (0x50, 0x471E0064), (0x54, 0x06090B04), (0x58, 0x0601017C), (0x5C, 0x01030301),
      (0x60, 0x0E0601F4), (0x64, 0x01020201), (0x68, 0x0A0100C8), (0x6C, 0x01010501)] :
        List (BitVec 32 × Word)),
    exec (.rd 4#8 p.1) s = .next { s with resp := .data p.2 }

/-- R52, R54: RD gives the register's value, 0 for CMD and reserved offsets, and changes nothing else. -/
def Obligations.ReadGivesRegisterAndChangesNothing : Prop :=
  ∀ s : State,
    exec (.rd 4#8 0x00#32) s = .next { s with resp := .data 0#32 } ∧
    exec (.rd 4#8 0x04#32) s = .next { s with resp := .data (statusWord s) } ∧
    exec (.rd 4#8 0x08#32) s = .next { s with resp := .data s.argProto } ∧
    exec (.rd 4#8 0x0C#32) s = .next { s with resp := .data s.argRepeat } ∧
    exec (.rd 4#8 0x10#32) s = .next { s with resp := .data s.argPulse } ∧
    exec (.rd 4#8 0x14#32) s = .next { s with resp := .data s.argBitlen } ∧
    exec (.rd 4#8 0x18#32) s = .next { s with resp := .data s.codeLo } ∧
    exec (.rd 4#8 0x1C#32) s = .next { s with resp := .data s.codeHi } ∧
    exec (.rd 4#8 0x20#32) s = .next { s with resp := .data (BitVec.ofNat 32 s.devProto.val) } ∧
    exec (.rd 4#8 0x24#32) s = .next { s with resp := .data s.devRepeat } ∧
    exec (.rd 4#8 0x28#32) s = .next { s with resp := .data s.devPulse } ∧
    exec (.rd 4#8 0x2C#32) s = .next { s with resp := .data s.devBitlen } ∧
    exec (.rd 4#8 0x30#32) s = .next { s with resp := .data (lineWord s) } ∧
    exec (.rd 4#8 0x34#32) s = .next { s with resp := .data 0#32 } ∧
    exec (.rd 4#8 0x38#32) s = .next { s with resp := .data 0#32 } ∧
    exec (.rd 4#8 0x3C#32) s = .next { s with resp := .data 0#32 } ∧
    (∀ off : BitVec 32, off.toNat % 4 = 0 → 0x70 ≤ off.toNat → off.toNat < 0x100 →
      exec (.rd 4#8 off) s = .next { s with resp := .data 0 })

/-- R22, R34, R201: the fields of the STATUS and LINE words, as numbers, with the nine result codes. -/
def Obligations.StatusAndLineWordsPackTheirFields : Prop :=
  ∀ s : State,
    (statusWord s).toNat =
      (match s.lifecycle with | .none => 0 | .enabled => 1 | .disabled => 2)
        + 4 * s.busy.toNat + 8 * s.reject.toNat
        + 16 * (match s.result with
            | .ok => 0 | .errNotInit => 1 | .errDoubleTeardown => 2 | .errIo => 3 | .errRelease => 4
            | .errAcquire => 5 | .errBadProtocol => 6 | .errLineOwned => 7 | .errBadCmd => 8) ∧
    (lineWord s).toNat = s.lineLevel.toNat + 2 * s.lineOwned.toNat

/-- R53: WR stores into the six argument and code registers and is ignored at every other accepted
offset but CMD's. The response `written` is log 6. -/
def Obligations.WriteStoresOrIsIgnored : Prop :=
  ∀ (s : State) (v : Word),
    exec (.wr 4#8 0x08#32 v) s = .next { s with argProto := v, resp := .written } ∧
    exec (.wr 4#8 0x0C#32 v) s = .next { s with argRepeat := v, resp := .written } ∧
    exec (.wr 4#8 0x10#32 v) s = .next { s with argPulse := v, resp := .written } ∧
    exec (.wr 4#8 0x14#32 v) s = .next { s with argBitlen := v, resp := .written } ∧
    exec (.wr 4#8 0x18#32 v) s = .next { s with codeLo := v, resp := .written } ∧
    exec (.wr 4#8 0x1C#32 v) s = .next { s with codeHi := v, resp := .written } ∧
    (∀ off : BitVec 32, off.toNat % 4 = 0 → off.toNat < 0x100 → (off.toNat = 0x04 ∨ 0x20 ≤ off.toNat) →
      exec (.wr 4#8 off v) s = .next { s with resp := .written })

/-- R203, R55: an access of the wrong size, misaligned or outside the window is answered by a bus error and
changes no state of the block. -/
def Obligations.MalformedAccessChangesNoState : Prop :=
  ∀ (s : State) (size : BitVec 8) (off : BitVec 32) (v : Word),
    (size.toNat ≠ 4 ∨ off.toNat % 4 ≠ 0 ∨ 0x100 ≤ off.toNat) →
    exec (.rd size off) s = .next { s with resp := .busError off } ∧
    exec (.wr size off v) s = .next { s with resp := .busError off }

/-- R56, R53: a store changes the four bytes of its register, little-endian, and every other byte of the
window reads as before; a write anywhere else but CMD changes no byte. -/
def Obligations.StoreChangesOnlyItsFourBytes : Prop :=
  ∀ (s : State) (off : BitVec 32) (v : Word), off.toNat % 4 = 0 → off.toNat < 0x100 → off.toNat ≠ 0 →
    ∃ t, exec (.wr 4#8 off v) s = .next t ∧
      (∀ a, ¬ (off.toNat ≤ a ∧ a < off.toNat + 4) → windowByte t a = windowByte s a) ∧
      (0x08 ≤ off.toNat → off.toNat < 0x20 →
        ∀ k < 4, windowByte t (off.toNat + k) = v.extractLsb' (8 * k) 8) ∧
      (off.toNat = 0x04 ∨ 0x20 ≤ off.toNat → ∀ a, windowByte t a = windowByte s a)

/-- R54: a write to a read-only register or a reserved offset is ignored without an error, and CMD and the
reserved offsets read 0. -/
def Obligations.ReservedOffsetsReadZeroAndIgnoreWrites : Prop :=
  ∀ (s : State) (off : BitVec 32) (v : Word), off.toNat % 4 = 0 → off.toNat < 0x100 →
    ((off.toNat = 0x04 ∨ 0x20 ≤ off.toNat) →
      ∃ r, exec (.wr 4#8 off v) s = .next { s with resp := r } ∧ ∀ o, r ≠ .busError o) ∧
    ((off.toNat = 0x00 ∨ (0x34 ≤ off.toNat ∧ off.toNat ≤ 0x3C) ∨ 0x70 ≤ off.toNat) →
      exec (.rd 4#8 off) s = .next { s with resp := .data 0#32 })

/-! ### Command words -/

/-- R163: any command word written while BUSY = 1 sets REJECT and does nothing else; written while BUSY = 0,
it leaves REJECT 0. What the host port answers, `r`, is left open here and in the statements below. -/
def Obligations.BusyBlockRejectsEveryCommand : Prop :=
  ∀ (s : State) (w : Word) (i : Instr), decode (.cmd w) = .ok i →
    (s.busy = true → ∃ r, exec i s = .next { s with reject := true, resp := r }) ∧
    (s.busy = false → ∃ t, exec i s = .next t ∧ t.reject = false)

/-- R72: every word but 0x1, 0x2 and 0x3 is illegal; while idle it finishes at once with ERR_BAD_CMD and
changes nothing else, and while busy it is rejected. -/
def Obligations.IllegalWordEndsInErrBadCmd : Prop :=
  ∀ (s : State) (w : Word), w ≠ 1#32 → w ≠ 2#32 → w ≠ 3#32 →
    decode (.cmd w) = .ok (.illegalCmd w) ∧
    (s.busy = false → ∃ r, exec (.illegalCmd w) s = .next { endedAtIssue .errBadCmd s with resp := r }) ∧
    (s.busy = true → ∃ r, exec (.illegalCmd w) s = .next { s with reject := true, resp := r })

/-- Every command word is acknowledged as a performed write, accepted or rejected: the model's choice of
response (log 6). -/
def Obligations.CommandWriteIsAcknowledged : Prop :=
  ∀ (s : State) (w : Word) (i : Instr), decode (.cmd w) = .ok i →
    ∃ t, exec i s = .next t ∧ t.resp = .written

/-- R165, R73, R21: an accepted INIT whose checks pass latches its operands and starts the one-entry list
[ACQUIRE]; no other register changes. The latches are log 7, the response is log 6. -/
def Obligations.InitStartsAcquire : Prop :=
  ∀ (s : State) (idx : Fin 6), s.busy = false → s.lifecycle ≠ .enabled → s.lineOwned = false →
    s.argProto.toNat = idx.val + 1 →
    exec .init s =
      .next { s with
        reject := false, busy := true, curCmd := .init, uops := .words [0x40000000000#44], seqIdx := 0
        latProto := idx, latRepeat := s.argRepeat, latPulse := s.argPulse, latBitlen := s.argBitlen
        resp := .written }

/-- R166: INIT while a device owns the line finishes with ERR_LINE_OWNED and no other effect. -/
def Obligations.InitRefusedWhileLineOwned : Prop :=
  ∀ s : State, s.busy = false → (s.lifecycle = .enabled ∨ s.lineOwned = true) →
    ∃ r, exec .init s = .next { endedAtIssue .errLineOwned s with resp := r }

/-- R167: INIT with ARG_PROTO outside 1 to 6 finishes with ERR_BAD_PROTOCOL and no other effect. -/
def Obligations.InitRefusesProtocolOutsideTable : Prop :=
  ∀ s : State, s.busy = false → s.lifecycle ≠ .enabled → s.lineOwned = false →
    (s.argProto.toNat < 1 ∨ 6 < s.argProto.toNat) →
    ∃ r, exec .init s = .next { endedAtIssue .errBadProtocol s with resp := r }

/-- R168, R116: an accepted SEND latches the code, encodes with the old bit length, widens, and starts the
list of the latched values. The response is log 6, the form of UOPS log 8. -/
def Obligations.SendEncodesAndStartsList : Prop :=
  ∀ s : State, s.busy = false → s.lifecycle = .enabled → s.devRepeat ≠ 0#32 →
    let code : Code := s.codeHi ++ s.codeLo
    let w := bitlen code.toNat
    let len := if w > s.devBitlen.toNat + 2 then w - 2 else s.devBitlen.toNat
    let newLen : Word := if code.toNat > 16777216 then 32#32 else s.devBitlen
    exec .send s =
      .next { s with
        reject := false, busy := true, curCmd := .send, lcode := code, llen := BitVec.ofNat 33 len
        devBitlen := newLen, txlen := newLen, seqIdx := 0
        uops := .send
          { proto := s.devProto, pulse := s.devPulse, repeats := s.devRepeat, code := code
            llen := BitVec.ofNat 33 len, txlen := newLen }
        resp := .written }

/-- R168 (its case R170 is marked derived by the spec): a SEND with DEV_REPEAT = 0 finishes OK at acceptance; the encoding and its widening have
happened. A list is empty only when the repeat count is 0. -/
def Obligations.SendWithZeroRepeatsEndsAtOnce : Prop :=
  (∀ s : State, s.busy = false → s.lifecycle = .enabled → s.devRepeat = 0#32 →
    let code : Code := s.codeHi ++ s.codeLo
    let w := bitlen code.toNat
    let len := if w > s.devBitlen.toNat + 2 then w - 2 else s.devBitlen.toNat
    let newLen : Word := if code.toNat > 16777216 then 32#32 else s.devBitlen
    ∃ r, exec .send s =
      .next { endedAtIssue .ok s with
        lcode := code, llen := BitVec.ofNat 33 len, devBitlen := newLen, txlen := newLen, resp := r }) ∧
  (∀ p : SendPlan, buildSend p = [] ↔ p.repeats = 0#32)

/-- R169: SEND without an enabled device finishes with ERR_NOT_INIT and has no other effect. -/
def Obligations.SendRefusedWithoutEnabledDevice : Prop :=
  ∀ s : State, s.busy = false → (s.lifecycle = .none ∨ s.lifecycle = .disabled) →
    ∃ r, exec .send s = .next { endedAtIssue .errNotInit s with resp := r }

/-- R174: an accepted CLEANUP on an enabled device starts the one-entry list [RELEASE]. The response is
log 6. -/
def Obligations.CleanupStartsRelease : Prop :=
  ∀ s : State, s.busy = false → s.lifecycle = .enabled →
    exec .cleanup s =
      .next { s with
        reject := false, busy := true, curCmd := .cleanup, uops := .words [0x60000000000#44], seqIdx := 0
        resp := .written }

/-- R177: CLEANUP on a disabled device ends in the double-teardown error, and without any device in
ERR_NOT_INIT, with no other effect. -/
def Obligations.CleanupStateErrorsHaveNoOtherEffect : Prop :=
  ∀ s : State, s.busy = false →
    (s.lifecycle = .disabled →
      ∃ r, exec .cleanup s = .next { endedAtIssue .errDoubleTeardown s with resp := r }) ∧
    (s.lifecycle = .none → ∃ r, exec .cleanup s = .next { endedAtIssue .errNotInit s with resp := r })

/-! ### Micro-operations -/

/-- R193, R165: ACQUIRE answered `ok` owns the line, drives it low, writes the device from the latched
operands and ends INIT with OK; answered `err` it ends with ERR_ACQUIRE. That time moves by a draw of at most
SET_LATENCY_US is log 5, where the draw comes from log 3. -/
def Obligations.AcquireConstructsDeviceOrFails : Prop :=
  ∀ s : State, ∃ lat, IsDraw s.params.setLatencyUs lat s ∧
    (nextAnswer s = .ok →
      exec .acquire s =
        .next { idleWith .ok (answered .acquire .ok lat s) with
          lineOwned := true, lineLevel := false, lifecycle := .enabled
          devProto := s.latProto, devRepeat := s.latRepeat, devPulse := s.latPulse
          devBitlen := s.latBitlen }) ∧
    (nextAnswer s = .err → exec .acquire s = .next (idleWith .errAcquire (answered .acquire .err lat s)))

/-- R194, R175, R176: RELEASE answered `ok` gives up the line, keeps LEVEL, and ends CLEANUP with OK in
DISABLED; answered `err` it keeps the line, ends with ERR_RELEASE, and STATE is RELEASE_FAIL_STATE. The latency is
log 5, where the draw comes from log 3. -/
def Obligations.ReleaseDisablesDeviceOrFails : Prop :=
  ∀ s : State, ∃ lat, IsDraw s.params.setLatencyUs lat s ∧
    (nextAnswer s = .ok →
      exec .release s =
        .next { idleWith .ok (answered .release .ok lat s) with lineOwned := false, lifecycle := .disabled }) ∧
    (nextAnswer s = .err → s.params.releaseFailState = .enabled →
      exec .release s =
        .next { idleWith .errRelease (answered .release .err lat s) with lifecycle := .enabled }) ∧
    (nextAnswer s = .err → s.params.releaseFailState = .disabled →
      exec .release s =
        .next { idleWith .errRelease (answered .release .err lat s) with lifecycle := .disabled })

/-- R139, R191, R140, R142: SET_HIGH takes a latency of at most SET_LATENCY_US; answered `ok` it sets LEVEL and
SEQ_IDX moves on, or the SEND finishes OK after the last entry; answered `err` the SEND aborts with ERR_IO and
LEVEL stays. That it finishes in the same step is log 10, where the draw comes from log 3. -/
def Obligations.SetHighDrivesLineOrAborts : Prop :=
  ∀ s : State, ∃ lat, IsDraw s.params.setLatencyUs lat s ∧
    (nextAnswer s = .ok → s.seqIdx + 1 < uopCount s.uops →
      exec .setHigh s = .next { answered .setHigh .ok lat s with lineLevel := true, seqIdx := s.seqIdx + 1 }) ∧
    (nextAnswer s = .ok → uopCount s.uops ≤ s.seqIdx + 1 →
      exec .setHigh s = .next { idleWith .ok (answered .setHigh .ok lat s) with lineLevel := true }) ∧
    (nextAnswer s = .err → exec .setHigh s = .next (idleWith .errIo (answered .setHigh .err lat s)))

/-- R139, R191, R140, R142, for SET_LOW; log 3 and log 10 as above. -/
def Obligations.SetLowDrivesLineOrAborts : Prop :=
  ∀ s : State, ∃ lat, IsDraw s.params.setLatencyUs lat s ∧
    (nextAnswer s = .ok → s.seqIdx + 1 < uopCount s.uops →
      exec .setLow s = .next { answered .setLow .ok lat s with lineLevel := false, seqIdx := s.seqIdx + 1 }) ∧
    (nextAnswer s = .ok → uopCount s.uops ≤ s.seqIdx + 1 →
      exec .setLow s = .next { idleWith .ok (answered .setLow .ok lat s) with lineLevel := false }) ∧
    (nextAnswer s = .err → exec .setLow s = .next (idleWith .errIo (answered .setLow .err lat s)))

/-- R138, R142: HOLD(d) moves time by d and a draw of at most HOLD_SLACK_US, never less than d, leaves TIMER
at 0, and changes nothing else but SEQ_IDX or, after the last entry, the finished SEND. That a hold is one step
is log 9, where its draw comes from log 3; a duration above R78's greatest is held too (log 23). -/
def Obligations.HoldLastsItsDurationPlusSlack : Prop :=
  ∀ (s : State) (d : Duration), ∃ e ≤ s.params.holdSlackUs,
    let held : State :=
      { s with
        time := s.time + d.toNat + e, timer := 0#41, delays := s.delays.tail
        delayCount := s.delayCount + 1 }
    (s.seqIdx + 1 < uopCount s.uops → exec (.hold d) s = .next { held with seqIdx := s.seqIdx + 1 }) ∧
    (uopCount s.uops ≤ s.seqIdx + 1 → exec (.hold d) s = .next (idleWith .ok held)) ∧
    (∀ x rest, s.delays = x :: rest → x ≤ s.params.holdSlackUs → e = x)

/-! ### The encoder -/

/-- The characters S[i] of R112, at the length of R111 (both marked derived from R110 by the spec), are those of
the source's own algorithm R110, format to `bitLength + 2` digits and drop two, for every code and bit length. -/
def Obligations.DigitStringIsSourceAlgorithm : Prop :=
  ∀ (code : Code) (B : Nat),
    sourceDigits code.toNat B = digitString code (digitCount (bitlen code.toNat) B)

/-- A code that fits in the bit length is sent whole: B characters that read back as the code (R117, which the spec
marks derived from R113). -/
def Obligations.FittingCodeReadsBackWhole : Prop :=
  ∀ (code : Code) (B : Nat), bitlen code.toNat ≤ B →
    let digits := digitString code (digitCount (bitlen code.toNat) B)
    digits.length = B ∧
      digits.foldl (fun n c => 2 * n + if c = '1' then 1 else 0) 0 = code.toNat

/-- The three cases of the length and the value of the digit string (R113, which the spec marks derived from R111
and R112). -/
def Obligations.DigitStringHasThreeCases : Prop :=
  ∀ (code : Code) (B : Nat),
    let w := bitlen code.toNat
    let digits := digitString code (digitCount w B)
    let value := digits.foldl (fun n c => 2 * n + if c = '1' then 1 else 0) 0
    (w ≤ B → digits.length = B ∧ value = code.toNat) ∧
    (w = B + 1 ∨ w = B + 2 → digits.length = B ∧ value = code.toNat % 2 ^ B) ∧
    (w > B + 2 → digits.length = w - 2 ∧ digits.length > B ∧ value = code.toNat % 2 ^ (w - 2))

/-- R32, R165 (and R119, marked derived): only INIT's ACQUIRE gives DEV_PROTO, DEV_REPEAT and DEV_PULSE other values, and a SEND
changes DEV_BITLEN only to 32; whatever else a step without a reset does, the device's registers stay. -/
def Obligations.DeviceRegistersChangeOnlyByInitOrWidening : Prop :=
  ∀ s t : State, GoodState s → s.inputs.head? ≠ some .rst → step s = .next t →
    (s.curCmd ≠ .init →
      t.devProto = s.devProto ∧ t.devRepeat = s.devRepeat ∧ t.devPulse = s.devPulse) ∧
    (s.curCmd ≠ .init → t.devBitlen ≠ s.devBitlen →
      t.devBitlen = 32#32 ∧ t.lcode.toNat > 16777216 ∧ s.lifecycle = .enabled)

/-! ### The waveform -/

/-- R132, with the pairs of R103 as the numbers of R100: bit position `b` is sent as the protocol's zero pair
exactly where it is inside the digit string and its character is '0', as the one pair everywhere else, beyond the
string too; and the sync pair is the protocol's. -/
def Obligations.BitIsSentAsTablePair : Prop :=
  ∀ (p : SendPlan) (b : Nat),
    let zero : BitVec 8 × BitVec 8 :=
      match p.proto with
      | 0 => (1, 3) | 1 => (1, 2) | 2 => (4, 11) | 3 => (1, 3) | 4 => (1, 2) | 5 => (1, 5)
    let one : BitVec 8 × BitVec 8 :=
      match p.proto with
      | 0 => (3, 1) | 1 => (2, 1) | 2 => (9, 6) | 3 => (3, 1) | 4 => (2, 1) | 5 => (1, 1)
    let sync : BitVec 8 × BitVec 8 :=
      match p.proto with
      | 0 => (1, 31) | 1 => (1, 10) | 2 => (30, 71) | 3 => (1, 6) | 4 => (6, 14) | 5 => (1, 10)
    (b < p.llen.toNat → p.code.getLsbD (p.llen.toNat - 1 - b) = false → pairOf p b = zero) ∧
    (b < p.llen.toNat → p.code.getLsbD (p.llen.toNat - 1 - b) = true → pairOf p b = one) ∧
    (p.llen.toNat ≤ b → pairOf p b = one) ∧
    syncPair p.proto = sync

/-- R133, R134: the waveform of a pair (h, l) is SET_HIGH; HOLD(h × P); SET_LOW; HOLD(l × P). The gap is HOLD(1)
(R135, which the spec marks derived). -/
def Obligations.WaveformIsItsFourMicroOperations : Prop :=
  (∀ (h l : BitVec 8) (pulse : Word), ∃ dh dl : Duration,
    waveform (h, l) pulse = [.drv .setHigh, .hold dh, .drv .setLow, .hold dl] ∧
      dh.toNat = h.toNat * pulse.toNat ∧ dl.toNat = l.toNat * pulse.toNat) ∧
  gap = .hold 1#41

/-- R134: a hold of c pulse units is the micro-operation HOLD(c × P), below 2^40 and without wrap, and on the
reference hardware it moves time by exactly that. -/
def Obligations.HoldDurationIsExactProduct : Prop :=
  ∀ (c : BitVec 8) (p : Word), ∃ d : Duration,
    holdFor c p = .hold d ∧ d.toNat = c.toNat * p.toNat ∧ d.toNat < 2 ^ 40 ∧
    ∀ s : State, ReferenceHardware s →
      ∃ t, exec (.hold d) s = .next t ∧ t.time = s.time + c.toNat * p.toNat

/-- Entry k of the list R136 builds is the closed form of R137 (which the spec marks derived from R136), and there
is none from the length on. -/
def Obligations.ClosedFormIsBuiltList : Prop :=
  ∀ (p : SendPlan) (k : Nat),
    (buildSend p)[k]? =
      if k < p.repeats.toNat * (4 * (p.txlen.toNat + 1) + 1) then some (sendEntry p k) else none

/-- Of the list R136 builds (the counts of R145, which the spec marks derived from it), R × (TXLEN + 1) entries are SET_HIGH and as many SET_LOW, and the others are
holds. -/
def Obligations.BuiltListHasOnlyItsSetsAndHolds : Prop :=
  ∀ p : SendPlan,
    (buildSend p).count (.drv .setHigh) = p.repeats.toNat * (p.txlen.toNat + 1) ∧
    (buildSend p).count (.drv .setLow) = p.repeats.toNat * (p.txlen.toNat + 1) ∧
    (∀ m ∈ buildSend p,
      m = .drv .setHigh ∨ m = .drv .setLow ∨ ∃ d : Duration, m = .hold d ∧ d.toNat ≤ 255 * (2 ^ 32 - 1)) ∧
    (buildSend p).length = p.repeats.toNat * (4 * (p.txlen.toNat + 1) + 1)

/-- R136, R138, R139, R142 together (the spec marks the totals, R144, R145 and R171, derived from them): on the
reference hardware, an accepted SEND with R ≥ 1 and every answer `ok` ends with OK and the line low at
t0 + R × F, and has added to TRACE exactly the events R144 names, at their times. That it takes as many steps as
its list is long is the model's choice: a hold is one step (log 9), and the SEND finishes in the step of its last
entry (log 10). -/
def Obligations.SendOnReferenceHardwareSendsItsFrames : Prop :=
  ∀ (s : State) (p : SendPlan),
    s.busy = true → s.curCmd = .send → s.uops = .send p → s.seqIdx = 0 → s.inputs = [] →
    ReferenceHardware s → p.repeats ≠ 0#32 →
    2 * p.repeats.toNat * (p.txlen.toNat + 1) ≤ s.answers.length → (∀ a ∈ s.answers, a = .ok) →
    ∃ t, Host.Core.run core (sendLen p) s = .next t ∧
      t.busy = false ∧ t.result = .ok ∧ t.curCmd = .none ∧ t.uops = .words [] ∧ t.seqIdx = 0 ∧
      t.lifecycle = s.lifecycle ∧ t.lineOwned = s.lineOwned ∧ t.lineLevel = false ∧
      t.devBitlen = s.devBitlen ∧ t.time = s.time + p.repeats.toNat * frameTime p ∧
      t.trace = s.trace ++ sendEvents p s.time

/-- R165, R193: an INIT whose checks pass, given one sequencer turn and the answer `ok`, leaves an enabled
device with the arguments as its registers, the line owned and low, and OK. -/
def Obligations.InitThenTurnConstructsDevice : Prop :=
  ∀ (s : State) (rest : List Input) (idx : Fin 6),
    s.inputs = .bus (.write 4#8 0#32 1#32) :: .tick :: rest → s.busy = false →
    s.lifecycle ≠ .enabled → s.lineOwned = false → s.argProto.toNat = idx.val + 1 →
    nextAnswer s = .ok →
    ∃ t, Host.Core.run core 2 s = .next t ∧
      t.lifecycle = .enabled ∧ t.busy = false ∧ t.result = .ok ∧ t.reject = false ∧
      t.devProto = idx ∧ t.devRepeat = s.argRepeat ∧ t.devPulse = s.argPulse ∧
      t.devBitlen = s.argBitlen ∧ t.lineOwned = true ∧ t.lineLevel = false ∧ t.inputs = rest

/-- R174, R175, R177: a CLEANUP of an enabled device, given one sequencer turn and the answer `ok`, and a
second CLEANUP: the first disables the device and gives up the line, the second ends in the double-teardown
error. -/
def Obligations.SecondCleanupIsDoubleTeardown : Prop :=
  ∀ (s : State) (rest : List Input),
    s.inputs = .bus (.write 4#8 0#32 3#32) :: .tick :: .bus (.write 4#8 0#32 3#32) :: rest →
    s.busy = false → s.lifecycle = .enabled → nextAnswer s = .ok →
    (∃ t, Host.Core.run core 2 s = .next t ∧ t.lifecycle = .disabled ∧ t.lineOwned = false ∧
      t.lineLevel = s.lineLevel ∧ t.busy = false ∧ t.result = .ok) ∧
    (∃ u, Host.Core.run core 3 s = .next u ∧ u.lifecycle = .disabled ∧ u.result = .errDoubleTeardown ∧
      u.busy = false ∧ u.inputs = rest)

/-! ### Whole-machine rules -/

/-- Every step keeps the invariants: those of R39, which the spec marks derived, and the sequencer's own. -/
def Obligations.EveryStepKeepsInvariants : Prop :=
  ∀ s t : State, GoodState s → step s = .next t → GoodState t

/-- In a state that meets GoodState, the invariants of R39 and the sequencer's own, the machine goes on: no step
ends in a fault or a refusal. -/
def Obligations.GoodStateNeverStops : Prop :=
  ∀ s : State, GoodState s → ∃ t, step s = .next t

/-- R141, R191, R193, R194: LINE is what the driver events of TRACE made it, after every step. -/
def Obligations.EveryStepKeepsLineOfTrace : Prop :=
  ∀ s t : State, LineMatchesTrace s → step s = .next t → LineMatchesTrace t

/-- R141: TRACE stays in order of time, and time never runs back. That time does not run back at a reset either is
the model's choice: RST leaves it as it is (log 12). -/
def Obligations.EveryStepKeepsTraceOrdered : Prop :=
  ∀ s t : State, TraceOrdered s → step s = .next t → TraceOrdered t ∧ s.time ≤ t.time

/-- R196, R141 (and R192, marked derived): a step adds at most one event to TRACE, at the time it leaves, and takes at most one
answer; a SET is only issued by a SEND while the line is owned, an ACQUIRE by an INIT, a RELEASE by a
CLEANUP. -/
def Obligations.EachStepIssuesAtMostOneDriverOperation : Prop :=
  ∀ s t : State, GoodState s → s.inputs.head? ≠ some .rst → step s = .next t →
    (t.trace = s.trace ∧ t.drvCount = s.drvCount) ∨
    (∃ op res, t.trace = s.trace ++ [{ time := t.time, op := op, res := res }] ∧
      t.drvCount = s.drvCount + 1 ∧
      ((op = .setLow ∨ op = .setHigh) → s.curCmd = .send ∧ s.lineOwned = true) ∧
      (op = .acquire → s.curCmd = .init ∧ s.lineOwned = false) ∧
      (op = .release → s.curCmd = .cleanup ∧ s.lineOwned = true))

/-- R63: what the host writes into the argument and code registers while a command runs does not reach it:
the sequencer's turn does the same with any other values there, and leaves those values alone. -/
def Obligations.RunningCommandIgnoresArgumentWrites : Prop :=
  ∀ (s t : State) (a b c d lo hi : Word), s.busy = true → sequencerTurn s = .next t →
    sequencerTurn
        { s with argProto := a, argRepeat := b, argPulse := c, argBitlen := d, codeLo := lo, codeHi := hi }
      = .next
        { t with argProto := a, argRepeat := b, argPulse := c, argBitlen := d, codeLo := lo, codeHi := hi }

/-- R178, R175: no step but a reset takes a device that was constructed back to NONE, and only a CLEANUP's
RELEASE takes an enabled device out of ENABLED. -/
def Obligations.LifecycleLeavesEnabledOnlyByCleanup : Prop :=
  ∀ s t : State, GoodState s → s.inputs.head? ≠ some .rst → step s = .next t →
    (s.lifecycle ≠ .none → t.lifecycle ≠ .none) ∧
    (s.lifecycle = .enabled → t.lifecycle ≠ .enabled → s.curCmd = .cleanup ∧ t.lifecycle = .disabled) ∧
    (t.lifecycle = .enabled → s.lifecycle ≠ .enabled → s.curCmd = .init ∧ t.lineOwned = true)

/-- R143: while a SEND runs, a step without a reset leaves it running, or ends it with OK after its last
entry or with ERR_IO at an operation answered `err`; no host access ends it. -/
def Obligations.RunningSendEndsOnlyByListOrError : Prop :=
  ∀ s t : State, GoodState s → s.curCmd = .send → s.inputs.head? ≠ some .rst → step s = .next t →
    (t.curCmd = .send ∧ t.uops = s.uops ∧ t.lcode = s.lcode ∧ t.llen = s.llen ∧ t.txlen = s.txlen ∧
      (t.seqIdx = s.seqIdx ∨ t.seqIdx = s.seqIdx + 1)) ∨
    (t.busy = false ∧ t.result = .ok ∧ s.seqIdx + 1 = uopCount s.uops) ∨
    (t.busy = false ∧ t.result = .errIo ∧ nextAnswer s = .err ∧ t.lineLevel = s.lineLevel)

/-- The parameters are fixed: no step changes them (log 4). -/
def Obligations.NoStepChangesParameters : Prop :=
  ∀ s t : State, step s = .next t → t.params = s.params
end

