-- ==== Sys2Proof/Laws/Decode.lean ====
section
/-! SUPPORT. What the decoder and the encoder give on each field. -/

namespace Sys2Proof

/-- Bit `i` of a HOLD's word: DUR below bit 41, KIND 0b100 above (30_encoding.md R78). -/
theorem encodeMicroOp_hold_getLsbD (d : Duration) (i : Nat) :
    (encodeMicroOp (.hold d)).getLsbD i = if i < 41 then d.getLsbD i else (4#3).getLsbD (i - 41) :=
  BitVec.getLsbD_append

@[simp] theorem uopKind_hold (d : Duration) : uopKind (encodeMicroOp (.hold d)) = 0b100#3 := by
  apply BitVec.eq_of_getLsbD_eq
  intro i hi
  have h := encodeMicroOp_hold_getLsbD d (41 + i)
  have e : ¬ 41 + i < 41 := by omega
  rw [if_neg e, Nat.add_sub_cancel_left] at h
  simpa only [uopKind, BitVec.getLsbD_extractLsb', hi, decide_true, Bool.true_and] using h

@[simp] theorem uopDur_hold (d : Duration) : uopDur (encodeMicroOp (.hold d)) = d := by
  apply BitVec.eq_of_getLsbD_eq
  intro i hi
  have h := encodeMicroOp_hold_getLsbD d i
  rw [if_pos hi] at h
  simpa only [uopDur, BitVec.getLsbD_extractLsb', hi, decide_true, Bool.true_and, Nat.zero_add] using h

/-- A micro-operation's word decodes to it (30_encoding.md R78). -/
@[simp] theorem decodeMicroOp_encodeMicroOp (m : MicroOp) : decodeMicroOp (encodeMicroOp m) = .ok m := by
  cases m with
  | drv op => cases op <;> rfl
  | hold d => simp [decodeMicroOp]

/-- The decoder on a generated micro-operation word. -/
@[simp] theorem decode_uop_encodeMicroOp (m : MicroOp) :
    decode (.uop (encodeMicroOp m)) = .ok m.toInstr := by
  simp [decode]

@[simp] theorem bytesOfNat_length (n w : Nat) : (bytesOfNat n w).length = n := by
  induction n generalizing w with
  | zero => rfl
  | succ n ih => simp [bytesOfNat, ih]

/-- Bytes written least significant first hold the number again (20_memory.md R56). -/
theorem natOfBytes_bytesOfNat (n w : Nat) : natOfBytes (bytesOfNat n w) = w % 256 ^ n := by
  induction n generalizing w with
  | zero => simp [bytesOfNat, natOfBytes, Nat.mod_one]
  | succ n ih =>
    have e : (2 : Nat) ^ 8 = 256 := rfl
    rw [bytesOfNat, natOfBytes, ih, BitVec.toNat_ofNat, e, Nat.pow_succ', Nat.mod_mul]

/-- An operation code of the driver port decodes to its operation (30_encoding.md R76). -/
@[simp] theorem decodeDrvOp_encodeDrvOp (op : DrvOp) : decodeDrvOp (encodeDrvOp op) = op := by
  cases op <;> rfl

@[simp] theorem encodeDrvOp_decodeDrvOp (op : BitVec 2) : encodeDrvOp (decodeDrvOp op) = op := by
  revert op; decide

/-- A command word decodes to a command with that word (30_encoding.md R71, R72). -/
@[simp] theorem encodeCommand_decodeCommand (w : Word) : encodeCommand (decodeCommand w) = w := by
  unfold decodeCommand
  repeat' split
  all_goals simp_all [encodeCommand]

end Sys2Proof
end

