-- ==== Sys2Proof/Laws/State.lean ====
section
/-! SUPPORT. One lemma per field per update of the state, so that no proof unfolds a record update. -/

namespace Sys2Proof.Machine

variable (s : State)

/-! ### finish -/

@[simp] theorem finish_lifecycle (c : ResultCode) : (finish c s).lifecycle = s.lifecycle := rfl
@[simp] theorem finish_busy (c : ResultCode) : (finish c s).busy = false := rfl
@[simp] theorem finish_reject (c : ResultCode) : (finish c s).reject = s.reject := rfl
@[simp] theorem finish_result (c : ResultCode) : (finish c s).result = c := rfl
@[simp] theorem finish_argProto (c : ResultCode) : (finish c s).argProto = s.argProto := rfl
@[simp] theorem finish_argRepeat (c : ResultCode) : (finish c s).argRepeat = s.argRepeat := rfl
@[simp] theorem finish_argPulse (c : ResultCode) : (finish c s).argPulse = s.argPulse := rfl
@[simp] theorem finish_argBitlen (c : ResultCode) : (finish c s).argBitlen = s.argBitlen := rfl
@[simp] theorem finish_codeLo (c : ResultCode) : (finish c s).codeLo = s.codeLo := rfl
@[simp] theorem finish_codeHi (c : ResultCode) : (finish c s).codeHi = s.codeHi := rfl
@[simp] theorem finish_devProto (c : ResultCode) : (finish c s).devProto = s.devProto := rfl
@[simp] theorem finish_devRepeat (c : ResultCode) : (finish c s).devRepeat = s.devRepeat := rfl
@[simp] theorem finish_devPulse (c : ResultCode) : (finish c s).devPulse = s.devPulse := rfl
@[simp] theorem finish_devBitlen (c : ResultCode) : (finish c s).devBitlen = s.devBitlen := rfl
@[simp] theorem finish_lineLevel (c : ResultCode) : (finish c s).lineLevel = s.lineLevel := rfl
@[simp] theorem finish_lineOwned (c : ResultCode) : (finish c s).lineOwned = s.lineOwned := rfl
@[simp] theorem finish_curCmd (c : ResultCode) : (finish c s).curCmd = .none := rfl
@[simp] theorem finish_lcode (c : ResultCode) : (finish c s).lcode = s.lcode := rfl
@[simp] theorem finish_llen (c : ResultCode) : (finish c s).llen = s.llen := rfl
@[simp] theorem finish_txlen (c : ResultCode) : (finish c s).txlen = s.txlen := rfl
@[simp] theorem finish_uops (c : ResultCode) : (finish c s).uops = .words [] := rfl
@[simp] theorem finish_seqIdx (c : ResultCode) : (finish c s).seqIdx = 0 := rfl
@[simp] theorem finish_timer (c : ResultCode) : (finish c s).timer = s.timer := rfl
@[simp] theorem finish_latProto (c : ResultCode) : (finish c s).latProto = s.latProto := rfl
@[simp] theorem finish_latRepeat (c : ResultCode) : (finish c s).latRepeat = s.latRepeat := rfl
@[simp] theorem finish_latPulse (c : ResultCode) : (finish c s).latPulse = s.latPulse := rfl
@[simp] theorem finish_latBitlen (c : ResultCode) : (finish c s).latBitlen = s.latBitlen := rfl
@[simp] theorem finish_time (c : ResultCode) : (finish c s).time = s.time := rfl
@[simp] theorem finish_trace (c : ResultCode) : (finish c s).trace = s.trace := rfl
@[simp] theorem finish_resp (c : ResultCode) : (finish c s).resp = s.resp := rfl
@[simp] theorem finish_inputs (c : ResultCode) : (finish c s).inputs = s.inputs := rfl
@[simp] theorem finish_answers (c : ResultCode) : (finish c s).answers = s.answers := rfl
@[simp] theorem finish_drvCount (c : ResultCode) : (finish c s).drvCount = s.drvCount := rfl
@[simp] theorem finish_delays (c : ResultCode) : (finish c s).delays = s.delays := rfl
@[simp] theorem finish_delayCount (c : ResultCode) : (finish c s).delayCount = s.delayCount := rfl
@[simp] theorem finish_params (c : ResultCode) : (finish c s).params = s.params := rfl

/-! ### writeDone -/

@[simp] theorem writeDone_lifecycle : (writeDone s).lifecycle = s.lifecycle := rfl
@[simp] theorem writeDone_busy : (writeDone s).busy = s.busy := rfl
@[simp] theorem writeDone_reject : (writeDone s).reject = s.reject := rfl
@[simp] theorem writeDone_result : (writeDone s).result = s.result := rfl
@[simp] theorem writeDone_argProto : (writeDone s).argProto = s.argProto := rfl
@[simp] theorem writeDone_argRepeat : (writeDone s).argRepeat = s.argRepeat := rfl
@[simp] theorem writeDone_argPulse : (writeDone s).argPulse = s.argPulse := rfl
@[simp] theorem writeDone_argBitlen : (writeDone s).argBitlen = s.argBitlen := rfl
@[simp] theorem writeDone_codeLo : (writeDone s).codeLo = s.codeLo := rfl
@[simp] theorem writeDone_codeHi : (writeDone s).codeHi = s.codeHi := rfl
@[simp] theorem writeDone_devProto : (writeDone s).devProto = s.devProto := rfl
@[simp] theorem writeDone_devRepeat : (writeDone s).devRepeat = s.devRepeat := rfl
@[simp] theorem writeDone_devPulse : (writeDone s).devPulse = s.devPulse := rfl
@[simp] theorem writeDone_devBitlen : (writeDone s).devBitlen = s.devBitlen := rfl
@[simp] theorem writeDone_lineLevel : (writeDone s).lineLevel = s.lineLevel := rfl
@[simp] theorem writeDone_lineOwned : (writeDone s).lineOwned = s.lineOwned := rfl
@[simp] theorem writeDone_curCmd : (writeDone s).curCmd = s.curCmd := rfl
@[simp] theorem writeDone_lcode : (writeDone s).lcode = s.lcode := rfl
@[simp] theorem writeDone_llen : (writeDone s).llen = s.llen := rfl
@[simp] theorem writeDone_txlen : (writeDone s).txlen = s.txlen := rfl
@[simp] theorem writeDone_uops : (writeDone s).uops = s.uops := rfl
@[simp] theorem writeDone_seqIdx : (writeDone s).seqIdx = s.seqIdx := rfl
@[simp] theorem writeDone_timer : (writeDone s).timer = s.timer := rfl
@[simp] theorem writeDone_latProto : (writeDone s).latProto = s.latProto := rfl
@[simp] theorem writeDone_latRepeat : (writeDone s).latRepeat = s.latRepeat := rfl
@[simp] theorem writeDone_latPulse : (writeDone s).latPulse = s.latPulse := rfl
@[simp] theorem writeDone_latBitlen : (writeDone s).latBitlen = s.latBitlen := rfl
@[simp] theorem writeDone_time : (writeDone s).time = s.time := rfl
@[simp] theorem writeDone_trace : (writeDone s).trace = s.trace := rfl
@[simp] theorem writeDone_resp : (writeDone s).resp = .written := rfl
@[simp] theorem writeDone_inputs : (writeDone s).inputs = s.inputs := rfl
@[simp] theorem writeDone_answers : (writeDone s).answers = s.answers := rfl
@[simp] theorem writeDone_drvCount : (writeDone s).drvCount = s.drvCount := rfl
@[simp] theorem writeDone_delays : (writeDone s).delays = s.delays := rfl
@[simp] theorem writeDone_delayCount : (writeDone s).delayCount = s.delayCount := rfl
@[simp] theorem writeDone_params : (writeDone s).params = s.params := rfl

/-! ### readDone -/

@[simp] theorem readDone_lifecycle (v : Word) : (readDone v s).lifecycle = s.lifecycle := rfl
@[simp] theorem readDone_busy (v : Word) : (readDone v s).busy = s.busy := rfl
@[simp] theorem readDone_reject (v : Word) : (readDone v s).reject = s.reject := rfl
@[simp] theorem readDone_result (v : Word) : (readDone v s).result = s.result := rfl
@[simp] theorem readDone_argProto (v : Word) : (readDone v s).argProto = s.argProto := rfl
@[simp] theorem readDone_argRepeat (v : Word) : (readDone v s).argRepeat = s.argRepeat := rfl
@[simp] theorem readDone_argPulse (v : Word) : (readDone v s).argPulse = s.argPulse := rfl
@[simp] theorem readDone_argBitlen (v : Word) : (readDone v s).argBitlen = s.argBitlen := rfl
@[simp] theorem readDone_codeLo (v : Word) : (readDone v s).codeLo = s.codeLo := rfl
@[simp] theorem readDone_codeHi (v : Word) : (readDone v s).codeHi = s.codeHi := rfl
@[simp] theorem readDone_devProto (v : Word) : (readDone v s).devProto = s.devProto := rfl
@[simp] theorem readDone_devRepeat (v : Word) : (readDone v s).devRepeat = s.devRepeat := rfl
@[simp] theorem readDone_devPulse (v : Word) : (readDone v s).devPulse = s.devPulse := rfl
@[simp] theorem readDone_devBitlen (v : Word) : (readDone v s).devBitlen = s.devBitlen := rfl
@[simp] theorem readDone_lineLevel (v : Word) : (readDone v s).lineLevel = s.lineLevel := rfl
@[simp] theorem readDone_lineOwned (v : Word) : (readDone v s).lineOwned = s.lineOwned := rfl
@[simp] theorem readDone_curCmd (v : Word) : (readDone v s).curCmd = s.curCmd := rfl
@[simp] theorem readDone_lcode (v : Word) : (readDone v s).lcode = s.lcode := rfl
@[simp] theorem readDone_llen (v : Word) : (readDone v s).llen = s.llen := rfl
@[simp] theorem readDone_txlen (v : Word) : (readDone v s).txlen = s.txlen := rfl
@[simp] theorem readDone_uops (v : Word) : (readDone v s).uops = s.uops := rfl
@[simp] theorem readDone_seqIdx (v : Word) : (readDone v s).seqIdx = s.seqIdx := rfl
@[simp] theorem readDone_timer (v : Word) : (readDone v s).timer = s.timer := rfl
@[simp] theorem readDone_latProto (v : Word) : (readDone v s).latProto = s.latProto := rfl
@[simp] theorem readDone_latRepeat (v : Word) : (readDone v s).latRepeat = s.latRepeat := rfl
@[simp] theorem readDone_latPulse (v : Word) : (readDone v s).latPulse = s.latPulse := rfl
@[simp] theorem readDone_latBitlen (v : Word) : (readDone v s).latBitlen = s.latBitlen := rfl
@[simp] theorem readDone_time (v : Word) : (readDone v s).time = s.time := rfl
@[simp] theorem readDone_trace (v : Word) : (readDone v s).trace = s.trace := rfl
@[simp] theorem readDone_resp (v : Word) : (readDone v s).resp = .data v := rfl
@[simp] theorem readDone_inputs (v : Word) : (readDone v s).inputs = s.inputs := rfl
@[simp] theorem readDone_answers (v : Word) : (readDone v s).answers = s.answers := rfl
@[simp] theorem readDone_drvCount (v : Word) : (readDone v s).drvCount = s.drvCount := rfl
@[simp] theorem readDone_delays (v : Word) : (readDone v s).delays = s.delays := rfl
@[simp] theorem readDone_delayCount (v : Word) : (readDone v s).delayCount = s.delayCount := rfl
@[simp] theorem readDone_params (v : Word) : (readDone v s).params = s.params := rfl

/-! ### busError -/

@[simp] theorem busError_lifecycle (o : BitVec 32) : (busError o s).lifecycle = s.lifecycle := rfl
@[simp] theorem busError_busy (o : BitVec 32) : (busError o s).busy = s.busy := rfl
@[simp] theorem busError_reject (o : BitVec 32) : (busError o s).reject = s.reject := rfl
@[simp] theorem busError_result (o : BitVec 32) : (busError o s).result = s.result := rfl
@[simp] theorem busError_argProto (o : BitVec 32) : (busError o s).argProto = s.argProto := rfl
@[simp] theorem busError_argRepeat (o : BitVec 32) : (busError o s).argRepeat = s.argRepeat := rfl
@[simp] theorem busError_argPulse (o : BitVec 32) : (busError o s).argPulse = s.argPulse := rfl
@[simp] theorem busError_argBitlen (o : BitVec 32) : (busError o s).argBitlen = s.argBitlen := rfl
@[simp] theorem busError_codeLo (o : BitVec 32) : (busError o s).codeLo = s.codeLo := rfl
@[simp] theorem busError_codeHi (o : BitVec 32) : (busError o s).codeHi = s.codeHi := rfl
@[simp] theorem busError_devProto (o : BitVec 32) : (busError o s).devProto = s.devProto := rfl
@[simp] theorem busError_devRepeat (o : BitVec 32) : (busError o s).devRepeat = s.devRepeat := rfl
@[simp] theorem busError_devPulse (o : BitVec 32) : (busError o s).devPulse = s.devPulse := rfl
@[simp] theorem busError_devBitlen (o : BitVec 32) : (busError o s).devBitlen = s.devBitlen := rfl
@[simp] theorem busError_lineLevel (o : BitVec 32) : (busError o s).lineLevel = s.lineLevel := rfl
@[simp] theorem busError_lineOwned (o : BitVec 32) : (busError o s).lineOwned = s.lineOwned := rfl
@[simp] theorem busError_curCmd (o : BitVec 32) : (busError o s).curCmd = s.curCmd := rfl
@[simp] theorem busError_lcode (o : BitVec 32) : (busError o s).lcode = s.lcode := rfl
@[simp] theorem busError_llen (o : BitVec 32) : (busError o s).llen = s.llen := rfl
@[simp] theorem busError_txlen (o : BitVec 32) : (busError o s).txlen = s.txlen := rfl
@[simp] theorem busError_uops (o : BitVec 32) : (busError o s).uops = s.uops := rfl
@[simp] theorem busError_seqIdx (o : BitVec 32) : (busError o s).seqIdx = s.seqIdx := rfl
@[simp] theorem busError_timer (o : BitVec 32) : (busError o s).timer = s.timer := rfl
@[simp] theorem busError_latProto (o : BitVec 32) : (busError o s).latProto = s.latProto := rfl
@[simp] theorem busError_latRepeat (o : BitVec 32) : (busError o s).latRepeat = s.latRepeat := rfl
@[simp] theorem busError_latPulse (o : BitVec 32) : (busError o s).latPulse = s.latPulse := rfl
@[simp] theorem busError_latBitlen (o : BitVec 32) : (busError o s).latBitlen = s.latBitlen := rfl
@[simp] theorem busError_time (o : BitVec 32) : (busError o s).time = s.time := rfl
@[simp] theorem busError_trace (o : BitVec 32) : (busError o s).trace = s.trace := rfl
@[simp] theorem busError_resp (o : BitVec 32) : (busError o s).resp = .busError o := rfl
@[simp] theorem busError_inputs (o : BitVec 32) : (busError o s).inputs = s.inputs := rfl
@[simp] theorem busError_answers (o : BitVec 32) : (busError o s).answers = s.answers := rfl
@[simp] theorem busError_drvCount (o : BitVec 32) : (busError o s).drvCount = s.drvCount := rfl
@[simp] theorem busError_delays (o : BitVec 32) : (busError o s).delays = s.delays := rfl
@[simp] theorem busError_delayCount (o : BitVec 32) : (busError o s).delayCount = s.delayCount := rfl
@[simp] theorem busError_params (o : BitVec 32) : (busError o s).params = s.params := rfl

/-! ### takeAnswer -/

@[simp] theorem takeAnswer_lifecycle : (takeAnswer s).lifecycle = s.lifecycle := rfl
@[simp] theorem takeAnswer_busy : (takeAnswer s).busy = s.busy := rfl
@[simp] theorem takeAnswer_reject : (takeAnswer s).reject = s.reject := rfl
@[simp] theorem takeAnswer_result : (takeAnswer s).result = s.result := rfl
@[simp] theorem takeAnswer_argProto : (takeAnswer s).argProto = s.argProto := rfl
@[simp] theorem takeAnswer_argRepeat : (takeAnswer s).argRepeat = s.argRepeat := rfl
@[simp] theorem takeAnswer_argPulse : (takeAnswer s).argPulse = s.argPulse := rfl
@[simp] theorem takeAnswer_argBitlen : (takeAnswer s).argBitlen = s.argBitlen := rfl
@[simp] theorem takeAnswer_codeLo : (takeAnswer s).codeLo = s.codeLo := rfl
@[simp] theorem takeAnswer_codeHi : (takeAnswer s).codeHi = s.codeHi := rfl
@[simp] theorem takeAnswer_devProto : (takeAnswer s).devProto = s.devProto := rfl
@[simp] theorem takeAnswer_devRepeat : (takeAnswer s).devRepeat = s.devRepeat := rfl
@[simp] theorem takeAnswer_devPulse : (takeAnswer s).devPulse = s.devPulse := rfl
@[simp] theorem takeAnswer_devBitlen : (takeAnswer s).devBitlen = s.devBitlen := rfl
@[simp] theorem takeAnswer_lineLevel : (takeAnswer s).lineLevel = s.lineLevel := rfl
@[simp] theorem takeAnswer_lineOwned : (takeAnswer s).lineOwned = s.lineOwned := rfl
@[simp] theorem takeAnswer_curCmd : (takeAnswer s).curCmd = s.curCmd := rfl
@[simp] theorem takeAnswer_lcode : (takeAnswer s).lcode = s.lcode := rfl
@[simp] theorem takeAnswer_llen : (takeAnswer s).llen = s.llen := rfl
@[simp] theorem takeAnswer_txlen : (takeAnswer s).txlen = s.txlen := rfl
@[simp] theorem takeAnswer_uops : (takeAnswer s).uops = s.uops := rfl
@[simp] theorem takeAnswer_seqIdx : (takeAnswer s).seqIdx = s.seqIdx := rfl
@[simp] theorem takeAnswer_timer : (takeAnswer s).timer = s.timer := rfl
@[simp] theorem takeAnswer_latProto : (takeAnswer s).latProto = s.latProto := rfl
@[simp] theorem takeAnswer_latRepeat : (takeAnswer s).latRepeat = s.latRepeat := rfl
@[simp] theorem takeAnswer_latPulse : (takeAnswer s).latPulse = s.latPulse := rfl
@[simp] theorem takeAnswer_latBitlen : (takeAnswer s).latBitlen = s.latBitlen := rfl
@[simp] theorem takeAnswer_time : (takeAnswer s).time = s.time := rfl
@[simp] theorem takeAnswer_trace : (takeAnswer s).trace = s.trace := rfl
@[simp] theorem takeAnswer_resp : (takeAnswer s).resp = s.resp := rfl
@[simp] theorem takeAnswer_inputs : (takeAnswer s).inputs = s.inputs := rfl
@[simp] theorem takeAnswer_answers : (takeAnswer s).answers = s.answers.tail := rfl
@[simp] theorem takeAnswer_drvCount : (takeAnswer s).drvCount = s.drvCount + 1 := rfl
@[simp] theorem takeAnswer_delays : (takeAnswer s).delays = s.delays := rfl
@[simp] theorem takeAnswer_delayCount : (takeAnswer s).delayCount = s.delayCount := rfl
@[simp] theorem takeAnswer_params : (takeAnswer s).params = s.params := rfl

/-! ### takeDelay -/

@[simp] theorem takeDelay_lifecycle : (takeDelay s).lifecycle = s.lifecycle := rfl
@[simp] theorem takeDelay_busy : (takeDelay s).busy = s.busy := rfl
@[simp] theorem takeDelay_reject : (takeDelay s).reject = s.reject := rfl
@[simp] theorem takeDelay_result : (takeDelay s).result = s.result := rfl
@[simp] theorem takeDelay_argProto : (takeDelay s).argProto = s.argProto := rfl
@[simp] theorem takeDelay_argRepeat : (takeDelay s).argRepeat = s.argRepeat := rfl
@[simp] theorem takeDelay_argPulse : (takeDelay s).argPulse = s.argPulse := rfl
@[simp] theorem takeDelay_argBitlen : (takeDelay s).argBitlen = s.argBitlen := rfl
@[simp] theorem takeDelay_codeLo : (takeDelay s).codeLo = s.codeLo := rfl
@[simp] theorem takeDelay_codeHi : (takeDelay s).codeHi = s.codeHi := rfl
@[simp] theorem takeDelay_devProto : (takeDelay s).devProto = s.devProto := rfl
@[simp] theorem takeDelay_devRepeat : (takeDelay s).devRepeat = s.devRepeat := rfl
@[simp] theorem takeDelay_devPulse : (takeDelay s).devPulse = s.devPulse := rfl
@[simp] theorem takeDelay_devBitlen : (takeDelay s).devBitlen = s.devBitlen := rfl
@[simp] theorem takeDelay_lineLevel : (takeDelay s).lineLevel = s.lineLevel := rfl
@[simp] theorem takeDelay_lineOwned : (takeDelay s).lineOwned = s.lineOwned := rfl
@[simp] theorem takeDelay_curCmd : (takeDelay s).curCmd = s.curCmd := rfl
@[simp] theorem takeDelay_lcode : (takeDelay s).lcode = s.lcode := rfl
@[simp] theorem takeDelay_llen : (takeDelay s).llen = s.llen := rfl
@[simp] theorem takeDelay_txlen : (takeDelay s).txlen = s.txlen := rfl
@[simp] theorem takeDelay_uops : (takeDelay s).uops = s.uops := rfl
@[simp] theorem takeDelay_seqIdx : (takeDelay s).seqIdx = s.seqIdx := rfl
@[simp] theorem takeDelay_timer : (takeDelay s).timer = s.timer := rfl
@[simp] theorem takeDelay_latProto : (takeDelay s).latProto = s.latProto := rfl
@[simp] theorem takeDelay_latRepeat : (takeDelay s).latRepeat = s.latRepeat := rfl
@[simp] theorem takeDelay_latPulse : (takeDelay s).latPulse = s.latPulse := rfl
@[simp] theorem takeDelay_latBitlen : (takeDelay s).latBitlen = s.latBitlen := rfl
@[simp] theorem takeDelay_time : (takeDelay s).time = s.time := rfl
@[simp] theorem takeDelay_trace : (takeDelay s).trace = s.trace := rfl
@[simp] theorem takeDelay_resp : (takeDelay s).resp = s.resp := rfl
@[simp] theorem takeDelay_inputs : (takeDelay s).inputs = s.inputs := rfl
@[simp] theorem takeDelay_answers : (takeDelay s).answers = s.answers := rfl
@[simp] theorem takeDelay_drvCount : (takeDelay s).drvCount = s.drvCount := rfl
@[simp] theorem takeDelay_delays : (takeDelay s).delays = s.delays.tail := rfl
@[simp] theorem takeDelay_delayCount : (takeDelay s).delayCount = s.delayCount + 1 := rfl
@[simp] theorem takeDelay_params : (takeDelay s).params = s.params := rfl

/-! ### passTime -/

@[simp] theorem passTime_lifecycle (d b : Nat) : (passTime d b s).lifecycle = s.lifecycle := rfl
@[simp] theorem passTime_busy (d b : Nat) : (passTime d b s).busy = s.busy := rfl
@[simp] theorem passTime_reject (d b : Nat) : (passTime d b s).reject = s.reject := rfl
@[simp] theorem passTime_result (d b : Nat) : (passTime d b s).result = s.result := rfl
@[simp] theorem passTime_argProto (d b : Nat) : (passTime d b s).argProto = s.argProto := rfl
@[simp] theorem passTime_argRepeat (d b : Nat) : (passTime d b s).argRepeat = s.argRepeat := rfl
@[simp] theorem passTime_argPulse (d b : Nat) : (passTime d b s).argPulse = s.argPulse := rfl
@[simp] theorem passTime_argBitlen (d b : Nat) : (passTime d b s).argBitlen = s.argBitlen := rfl
@[simp] theorem passTime_codeLo (d b : Nat) : (passTime d b s).codeLo = s.codeLo := rfl
@[simp] theorem passTime_codeHi (d b : Nat) : (passTime d b s).codeHi = s.codeHi := rfl
@[simp] theorem passTime_devProto (d b : Nat) : (passTime d b s).devProto = s.devProto := rfl
@[simp] theorem passTime_devRepeat (d b : Nat) : (passTime d b s).devRepeat = s.devRepeat := rfl
@[simp] theorem passTime_devPulse (d b : Nat) : (passTime d b s).devPulse = s.devPulse := rfl
@[simp] theorem passTime_devBitlen (d b : Nat) : (passTime d b s).devBitlen = s.devBitlen := rfl
@[simp] theorem passTime_lineLevel (d b : Nat) : (passTime d b s).lineLevel = s.lineLevel := rfl
@[simp] theorem passTime_lineOwned (d b : Nat) : (passTime d b s).lineOwned = s.lineOwned := rfl
@[simp] theorem passTime_curCmd (d b : Nat) : (passTime d b s).curCmd = s.curCmd := rfl
@[simp] theorem passTime_lcode (d b : Nat) : (passTime d b s).lcode = s.lcode := rfl
@[simp] theorem passTime_llen (d b : Nat) : (passTime d b s).llen = s.llen := rfl
@[simp] theorem passTime_txlen (d b : Nat) : (passTime d b s).txlen = s.txlen := rfl
@[simp] theorem passTime_uops (d b : Nat) : (passTime d b s).uops = s.uops := rfl
@[simp] theorem passTime_seqIdx (d b : Nat) : (passTime d b s).seqIdx = s.seqIdx := rfl
@[simp] theorem passTime_timer (d b : Nat) : (passTime d b s).timer = s.timer := rfl
@[simp] theorem passTime_latProto (d b : Nat) : (passTime d b s).latProto = s.latProto := rfl
@[simp] theorem passTime_latRepeat (d b : Nat) : (passTime d b s).latRepeat = s.latRepeat := rfl
@[simp] theorem passTime_latPulse (d b : Nat) : (passTime d b s).latPulse = s.latPulse := rfl
@[simp] theorem passTime_latBitlen (d b : Nat) : (passTime d b s).latBitlen = s.latBitlen := rfl
@[simp] theorem passTime_time (d b : Nat) : (passTime d b s).time = s.time + d + nextDelay b s := rfl
@[simp] theorem passTime_trace (d b : Nat) : (passTime d b s).trace = s.trace := rfl
@[simp] theorem passTime_resp (d b : Nat) : (passTime d b s).resp = s.resp := rfl
@[simp] theorem passTime_inputs (d b : Nat) : (passTime d b s).inputs = s.inputs := rfl
@[simp] theorem passTime_answers (d b : Nat) : (passTime d b s).answers = s.answers := rfl
@[simp] theorem passTime_drvCount (d b : Nat) : (passTime d b s).drvCount = s.drvCount := rfl
@[simp] theorem passTime_delays (d b : Nat) : (passTime d b s).delays = s.delays.tail := rfl
@[simp] theorem passTime_delayCount (d b : Nat) : (passTime d b s).delayCount = s.delayCount + 1 := rfl
@[simp] theorem passTime_params (d b : Nat) : (passTime d b s).params = s.params := rfl

/-! ### emitEvent -/

@[simp] theorem emitEvent_lifecycle (op : DrvOp) (r : Answer) : (emitEvent op r s).lifecycle = s.lifecycle :=
    rfl
@[simp] theorem emitEvent_busy (op : DrvOp) (r : Answer) : (emitEvent op r s).busy = s.busy := rfl
@[simp] theorem emitEvent_reject (op : DrvOp) (r : Answer) : (emitEvent op r s).reject = s.reject := rfl
@[simp] theorem emitEvent_result (op : DrvOp) (r : Answer) : (emitEvent op r s).result = s.result := rfl
@[simp] theorem emitEvent_argProto (op : DrvOp) (r : Answer) : (emitEvent op r s).argProto = s.argProto :=
    rfl
@[simp] theorem emitEvent_argRepeat (op : DrvOp) (r : Answer) : (emitEvent op r s).argRepeat = s.argRepeat :=
    rfl
@[simp] theorem emitEvent_argPulse (op : DrvOp) (r : Answer) : (emitEvent op r s).argPulse = s.argPulse :=
    rfl
@[simp] theorem emitEvent_argBitlen (op : DrvOp) (r : Answer) : (emitEvent op r s).argBitlen = s.argBitlen :=
    rfl
@[simp] theorem emitEvent_codeLo (op : DrvOp) (r : Answer) : (emitEvent op r s).codeLo = s.codeLo := rfl
@[simp] theorem emitEvent_codeHi (op : DrvOp) (r : Answer) : (emitEvent op r s).codeHi = s.codeHi := rfl
@[simp] theorem emitEvent_devProto (op : DrvOp) (r : Answer) : (emitEvent op r s).devProto = s.devProto :=
    rfl
@[simp] theorem emitEvent_devRepeat (op : DrvOp) (r : Answer) : (emitEvent op r s).devRepeat = s.devRepeat :=
    rfl
@[simp] theorem emitEvent_devPulse (op : DrvOp) (r : Answer) : (emitEvent op r s).devPulse = s.devPulse :=
    rfl
@[simp] theorem emitEvent_devBitlen (op : DrvOp) (r : Answer) : (emitEvent op r s).devBitlen = s.devBitlen :=
    rfl
@[simp] theorem emitEvent_lineLevel (op : DrvOp) (r : Answer) : (emitEvent op r s).lineLevel = s.lineLevel :=
    rfl
@[simp] theorem emitEvent_lineOwned (op : DrvOp) (r : Answer) : (emitEvent op r s).lineOwned = s.lineOwned :=
    rfl
@[simp] theorem emitEvent_curCmd (op : DrvOp) (r : Answer) : (emitEvent op r s).curCmd = s.curCmd := rfl
@[simp] theorem emitEvent_lcode (op : DrvOp) (r : Answer) : (emitEvent op r s).lcode = s.lcode := rfl
@[simp] theorem emitEvent_llen (op : DrvOp) (r : Answer) : (emitEvent op r s).llen = s.llen := rfl
@[simp] theorem emitEvent_txlen (op : DrvOp) (r : Answer) : (emitEvent op r s).txlen = s.txlen := rfl
@[simp] theorem emitEvent_uops (op : DrvOp) (r : Answer) : (emitEvent op r s).uops = s.uops := rfl
@[simp] theorem emitEvent_seqIdx (op : DrvOp) (r : Answer) : (emitEvent op r s).seqIdx = s.seqIdx := rfl
@[simp] theorem emitEvent_timer (op : DrvOp) (r : Answer) : (emitEvent op r s).timer = s.timer := rfl
@[simp] theorem emitEvent_latProto (op : DrvOp) (r : Answer) : (emitEvent op r s).latProto = s.latProto :=
    rfl
@[simp] theorem emitEvent_latRepeat (op : DrvOp) (r : Answer) : (emitEvent op r s).latRepeat = s.latRepeat :=
    rfl
@[simp] theorem emitEvent_latPulse (op : DrvOp) (r : Answer) : (emitEvent op r s).latPulse = s.latPulse :=
    rfl
@[simp] theorem emitEvent_latBitlen (op : DrvOp) (r : Answer) : (emitEvent op r s).latBitlen = s.latBitlen :=
    rfl
@[simp] theorem emitEvent_time (op : DrvOp) (r : Answer) : (emitEvent op r s).time = s.time := rfl
@[simp] theorem emitEvent_trace (op : DrvOp) (r : Answer) : (emitEvent op r s).trace = s.trace ++ [⟨s.time, op, r⟩] :=
    rfl
@[simp] theorem emitEvent_resp (op : DrvOp) (r : Answer) : (emitEvent op r s).resp = s.resp := rfl
@[simp] theorem emitEvent_inputs (op : DrvOp) (r : Answer) : (emitEvent op r s).inputs = s.inputs := rfl
@[simp] theorem emitEvent_answers (op : DrvOp) (r : Answer) : (emitEvent op r s).answers = s.answers :=
    rfl
@[simp] theorem emitEvent_drvCount (op : DrvOp) (r : Answer) : (emitEvent op r s).drvCount = s.drvCount :=
    rfl
@[simp] theorem emitEvent_delays (op : DrvOp) (r : Answer) : (emitEvent op r s).delays = s.delays := rfl
@[simp] theorem emitEvent_delayCount (op : DrvOp) (r : Answer) : (emitEvent op r s).delayCount = s.delayCount :=
    rfl
@[simp] theorem emitEvent_params (op : DrvOp) (r : Answer) : (emitEvent op r s).params = s.params := rfl

/-! ### startSequence -/

@[simp] theorem startSequence_lifecycle (c : CurCmd) (u : UopList) : (startSequence c u s).lifecycle = s.lifecycle :=
    rfl
@[simp] theorem startSequence_busy (c : CurCmd) (u : UopList) : (startSequence c u s).busy = true := rfl
@[simp] theorem startSequence_reject (c : CurCmd) (u : UopList) : (startSequence c u s).reject = s.reject :=
    rfl
@[simp] theorem startSequence_result (c : CurCmd) (u : UopList) : (startSequence c u s).result = s.result :=
    rfl
@[simp] theorem startSequence_argProto (c : CurCmd) (u : UopList) : (startSequence c u s).argProto = s.argProto :=
    rfl
@[simp] theorem startSequence_argRepeat (c : CurCmd) (u : UopList) : (startSequence c u s).argRepeat = s.argRepeat :=
    rfl
@[simp] theorem startSequence_argPulse (c : CurCmd) (u : UopList) : (startSequence c u s).argPulse = s.argPulse :=
    rfl
@[simp] theorem startSequence_argBitlen (c : CurCmd) (u : UopList) : (startSequence c u s).argBitlen = s.argBitlen :=
    rfl
@[simp] theorem startSequence_codeLo (c : CurCmd) (u : UopList) : (startSequence c u s).codeLo = s.codeLo :=
    rfl
@[simp] theorem startSequence_codeHi (c : CurCmd) (u : UopList) : (startSequence c u s).codeHi = s.codeHi :=
    rfl
@[simp] theorem startSequence_devProto (c : CurCmd) (u : UopList) : (startSequence c u s).devProto = s.devProto :=
    rfl
@[simp] theorem startSequence_devRepeat (c : CurCmd) (u : UopList) : (startSequence c u s).devRepeat = s.devRepeat :=
    rfl
@[simp] theorem startSequence_devPulse (c : CurCmd) (u : UopList) : (startSequence c u s).devPulse = s.devPulse :=
    rfl
@[simp] theorem startSequence_devBitlen (c : CurCmd) (u : UopList) : (startSequence c u s).devBitlen = s.devBitlen :=
    rfl
@[simp] theorem startSequence_lineLevel (c : CurCmd) (u : UopList) : (startSequence c u s).lineLevel = s.lineLevel :=
    rfl
@[simp] theorem startSequence_lineOwned (c : CurCmd) (u : UopList) : (startSequence c u s).lineOwned = s.lineOwned :=
    rfl
@[simp] theorem startSequence_curCmd (c : CurCmd) (u : UopList) : (startSequence c u s).curCmd = c := rfl
@[simp] theorem startSequence_lcode (c : CurCmd) (u : UopList) : (startSequence c u s).lcode = s.lcode :=
    rfl
@[simp] theorem startSequence_llen (c : CurCmd) (u : UopList) : (startSequence c u s).llen = s.llen :=
    rfl
@[simp] theorem startSequence_txlen (c : CurCmd) (u : UopList) : (startSequence c u s).txlen = s.txlen :=
    rfl
@[simp] theorem startSequence_uops (c : CurCmd) (u : UopList) : (startSequence c u s).uops = u := rfl
@[simp] theorem startSequence_seqIdx (c : CurCmd) (u : UopList) : (startSequence c u s).seqIdx = 0 := rfl
@[simp] theorem startSequence_timer (c : CurCmd) (u : UopList) : (startSequence c u s).timer = s.timer :=
    rfl
@[simp] theorem startSequence_latProto (c : CurCmd) (u : UopList) : (startSequence c u s).latProto = s.latProto :=
    rfl
@[simp] theorem startSequence_latRepeat (c : CurCmd) (u : UopList) : (startSequence c u s).latRepeat = s.latRepeat :=
    rfl
@[simp] theorem startSequence_latPulse (c : CurCmd) (u : UopList) : (startSequence c u s).latPulse = s.latPulse :=
    rfl
@[simp] theorem startSequence_latBitlen (c : CurCmd) (u : UopList) : (startSequence c u s).latBitlen = s.latBitlen :=
    rfl
@[simp] theorem startSequence_time (c : CurCmd) (u : UopList) : (startSequence c u s).time = s.time :=
    rfl
@[simp] theorem startSequence_trace (c : CurCmd) (u : UopList) : (startSequence c u s).trace = s.trace :=
    rfl
@[simp] theorem startSequence_resp (c : CurCmd) (u : UopList) : (startSequence c u s).resp = s.resp :=
    rfl
@[simp] theorem startSequence_inputs (c : CurCmd) (u : UopList) : (startSequence c u s).inputs = s.inputs :=
    rfl
@[simp] theorem startSequence_answers (c : CurCmd) (u : UopList) : (startSequence c u s).answers = s.answers :=
    rfl
@[simp] theorem startSequence_drvCount (c : CurCmd) (u : UopList) : (startSequence c u s).drvCount = s.drvCount :=
    rfl
@[simp] theorem startSequence_delays (c : CurCmd) (u : UopList) : (startSequence c u s).delays = s.delays :=
    rfl
@[simp] theorem startSequence_delayCount (c : CurCmd) (u : UopList) : (startSequence c u s).delayCount = s.delayCount :=
    rfl
@[simp] theorem startSequence_params (c : CurCmd) (u : UopList) : (startSequence c u s).params = s.params :=
    rfl

/-! ### latchInit -/

@[simp] theorem latchInit_lifecycle (i : Fin 6) : (latchInit i s).lifecycle = s.lifecycle := rfl
@[simp] theorem latchInit_busy (i : Fin 6) : (latchInit i s).busy = s.busy := rfl
@[simp] theorem latchInit_reject (i : Fin 6) : (latchInit i s).reject = s.reject := rfl
@[simp] theorem latchInit_result (i : Fin 6) : (latchInit i s).result = s.result := rfl
@[simp] theorem latchInit_argProto (i : Fin 6) : (latchInit i s).argProto = s.argProto := rfl
@[simp] theorem latchInit_argRepeat (i : Fin 6) : (latchInit i s).argRepeat = s.argRepeat := rfl
@[simp] theorem latchInit_argPulse (i : Fin 6) : (latchInit i s).argPulse = s.argPulse := rfl
@[simp] theorem latchInit_argBitlen (i : Fin 6) : (latchInit i s).argBitlen = s.argBitlen := rfl
@[simp] theorem latchInit_codeLo (i : Fin 6) : (latchInit i s).codeLo = s.codeLo := rfl
@[simp] theorem latchInit_codeHi (i : Fin 6) : (latchInit i s).codeHi = s.codeHi := rfl
@[simp] theorem latchInit_devProto (i : Fin 6) : (latchInit i s).devProto = s.devProto := rfl
@[simp] theorem latchInit_devRepeat (i : Fin 6) : (latchInit i s).devRepeat = s.devRepeat := rfl
@[simp] theorem latchInit_devPulse (i : Fin 6) : (latchInit i s).devPulse = s.devPulse := rfl
@[simp] theorem latchInit_devBitlen (i : Fin 6) : (latchInit i s).devBitlen = s.devBitlen := rfl
@[simp] theorem latchInit_lineLevel (i : Fin 6) : (latchInit i s).lineLevel = s.lineLevel := rfl
@[simp] theorem latchInit_lineOwned (i : Fin 6) : (latchInit i s).lineOwned = s.lineOwned := rfl
@[simp] theorem latchInit_curCmd (i : Fin 6) : (latchInit i s).curCmd = s.curCmd := rfl
@[simp] theorem latchInit_lcode (i : Fin 6) : (latchInit i s).lcode = s.lcode := rfl
@[simp] theorem latchInit_llen (i : Fin 6) : (latchInit i s).llen = s.llen := rfl
@[simp] theorem latchInit_txlen (i : Fin 6) : (latchInit i s).txlen = s.txlen := rfl
@[simp] theorem latchInit_uops (i : Fin 6) : (latchInit i s).uops = s.uops := rfl
@[simp] theorem latchInit_seqIdx (i : Fin 6) : (latchInit i s).seqIdx = s.seqIdx := rfl
@[simp] theorem latchInit_timer (i : Fin 6) : (latchInit i s).timer = s.timer := rfl
@[simp] theorem latchInit_latProto (i : Fin 6) : (latchInit i s).latProto = i := rfl
@[simp] theorem latchInit_latRepeat (i : Fin 6) : (latchInit i s).latRepeat = s.argRepeat := rfl
@[simp] theorem latchInit_latPulse (i : Fin 6) : (latchInit i s).latPulse = s.argPulse := rfl
@[simp] theorem latchInit_latBitlen (i : Fin 6) : (latchInit i s).latBitlen = s.argBitlen := rfl
@[simp] theorem latchInit_time (i : Fin 6) : (latchInit i s).time = s.time := rfl
@[simp] theorem latchInit_trace (i : Fin 6) : (latchInit i s).trace = s.trace := rfl
@[simp] theorem latchInit_resp (i : Fin 6) : (latchInit i s).resp = s.resp := rfl
@[simp] theorem latchInit_inputs (i : Fin 6) : (latchInit i s).inputs = s.inputs := rfl
@[simp] theorem latchInit_answers (i : Fin 6) : (latchInit i s).answers = s.answers := rfl
@[simp] theorem latchInit_drvCount (i : Fin 6) : (latchInit i s).drvCount = s.drvCount := rfl
@[simp] theorem latchInit_delays (i : Fin 6) : (latchInit i s).delays = s.delays := rfl
@[simp] theorem latchInit_delayCount (i : Fin 6) : (latchInit i s).delayCount = s.delayCount := rfl
@[simp] theorem latchInit_params (i : Fin 6) : (latchInit i s).params = s.params := rfl

/-! ### writeDevice -/

@[simp] theorem writeDevice_lifecycle : (writeDevice s).lifecycle = s.lifecycle := rfl
@[simp] theorem writeDevice_busy : (writeDevice s).busy = s.busy := rfl
@[simp] theorem writeDevice_reject : (writeDevice s).reject = s.reject := rfl
@[simp] theorem writeDevice_result : (writeDevice s).result = s.result := rfl
@[simp] theorem writeDevice_argProto : (writeDevice s).argProto = s.argProto := rfl
@[simp] theorem writeDevice_argRepeat : (writeDevice s).argRepeat = s.argRepeat := rfl
@[simp] theorem writeDevice_argPulse : (writeDevice s).argPulse = s.argPulse := rfl
@[simp] theorem writeDevice_argBitlen : (writeDevice s).argBitlen = s.argBitlen := rfl
@[simp] theorem writeDevice_codeLo : (writeDevice s).codeLo = s.codeLo := rfl
@[simp] theorem writeDevice_codeHi : (writeDevice s).codeHi = s.codeHi := rfl
@[simp] theorem writeDevice_devProto : (writeDevice s).devProto = s.latProto := rfl
@[simp] theorem writeDevice_devRepeat : (writeDevice s).devRepeat = s.latRepeat := rfl
@[simp] theorem writeDevice_devPulse : (writeDevice s).devPulse = s.latPulse := rfl
@[simp] theorem writeDevice_devBitlen : (writeDevice s).devBitlen = s.latBitlen := rfl
@[simp] theorem writeDevice_lineLevel : (writeDevice s).lineLevel = s.lineLevel := rfl
@[simp] theorem writeDevice_lineOwned : (writeDevice s).lineOwned = s.lineOwned := rfl
@[simp] theorem writeDevice_curCmd : (writeDevice s).curCmd = s.curCmd := rfl
@[simp] theorem writeDevice_lcode : (writeDevice s).lcode = s.lcode := rfl
@[simp] theorem writeDevice_llen : (writeDevice s).llen = s.llen := rfl
@[simp] theorem writeDevice_txlen : (writeDevice s).txlen = s.txlen := rfl
@[simp] theorem writeDevice_uops : (writeDevice s).uops = s.uops := rfl
@[simp] theorem writeDevice_seqIdx : (writeDevice s).seqIdx = s.seqIdx := rfl
@[simp] theorem writeDevice_timer : (writeDevice s).timer = s.timer := rfl
@[simp] theorem writeDevice_latProto : (writeDevice s).latProto = s.latProto := rfl
@[simp] theorem writeDevice_latRepeat : (writeDevice s).latRepeat = s.latRepeat := rfl
@[simp] theorem writeDevice_latPulse : (writeDevice s).latPulse = s.latPulse := rfl
@[simp] theorem writeDevice_latBitlen : (writeDevice s).latBitlen = s.latBitlen := rfl
@[simp] theorem writeDevice_time : (writeDevice s).time = s.time := rfl
@[simp] theorem writeDevice_trace : (writeDevice s).trace = s.trace := rfl
@[simp] theorem writeDevice_resp : (writeDevice s).resp = s.resp := rfl
@[simp] theorem writeDevice_inputs : (writeDevice s).inputs = s.inputs := rfl
@[simp] theorem writeDevice_answers : (writeDevice s).answers = s.answers := rfl
@[simp] theorem writeDevice_drvCount : (writeDevice s).drvCount = s.drvCount := rfl
@[simp] theorem writeDevice_delays : (writeDevice s).delays = s.delays := rfl
@[simp] theorem writeDevice_delayCount : (writeDevice s).delayCount = s.delayCount := rfl
@[simp] theorem writeDevice_params : (writeDevice s).params = s.params := rfl

/-! ### encodeStep -/

@[simp] theorem encodeStep_lifecycle : (encodeStep s).lifecycle = s.lifecycle := rfl
@[simp] theorem encodeStep_busy : (encodeStep s).busy = s.busy := rfl
@[simp] theorem encodeStep_reject : (encodeStep s).reject = s.reject := rfl
@[simp] theorem encodeStep_result : (encodeStep s).result = s.result := rfl
@[simp] theorem encodeStep_argProto : (encodeStep s).argProto = s.argProto := rfl
@[simp] theorem encodeStep_argRepeat : (encodeStep s).argRepeat = s.argRepeat := rfl
@[simp] theorem encodeStep_argPulse : (encodeStep s).argPulse = s.argPulse := rfl
@[simp] theorem encodeStep_argBitlen : (encodeStep s).argBitlen = s.argBitlen := rfl
@[simp] theorem encodeStep_codeLo : (encodeStep s).codeLo = s.codeLo := rfl
@[simp] theorem encodeStep_codeHi : (encodeStep s).codeHi = s.codeHi := rfl
@[simp] theorem encodeStep_devProto : (encodeStep s).devProto = s.devProto := rfl
@[simp] theorem encodeStep_devRepeat : (encodeStep s).devRepeat = s.devRepeat := rfl
@[simp] theorem encodeStep_devPulse : (encodeStep s).devPulse = s.devPulse := rfl
@[simp] theorem encodeStep_devBitlen : (encodeStep s).devBitlen = widenedBitlen s.lcode s.devBitlen :=
    rfl
@[simp] theorem encodeStep_lineLevel : (encodeStep s).lineLevel = s.lineLevel := rfl
@[simp] theorem encodeStep_lineOwned : (encodeStep s).lineOwned = s.lineOwned := rfl
@[simp] theorem encodeStep_curCmd : (encodeStep s).curCmd = s.curCmd := rfl
@[simp] theorem encodeStep_lcode : (encodeStep s).lcode = s.lcode := rfl
@[simp] theorem encodeStep_llen : (encodeStep s).llen = BitVec.ofNat 33 (digitCount (bitlen s.lcode.toNat) s.devBitlen.toNat) :=
    rfl
@[simp] theorem encodeStep_txlen : (encodeStep s).txlen = widenedBitlen s.lcode s.devBitlen := rfl
@[simp] theorem encodeStep_uops : (encodeStep s).uops = s.uops := rfl
@[simp] theorem encodeStep_seqIdx : (encodeStep s).seqIdx = s.seqIdx := rfl
@[simp] theorem encodeStep_timer : (encodeStep s).timer = s.timer := rfl
@[simp] theorem encodeStep_latProto : (encodeStep s).latProto = s.latProto := rfl
@[simp] theorem encodeStep_latRepeat : (encodeStep s).latRepeat = s.latRepeat := rfl
@[simp] theorem encodeStep_latPulse : (encodeStep s).latPulse = s.latPulse := rfl
@[simp] theorem encodeStep_latBitlen : (encodeStep s).latBitlen = s.latBitlen := rfl
@[simp] theorem encodeStep_time : (encodeStep s).time = s.time := rfl
@[simp] theorem encodeStep_trace : (encodeStep s).trace = s.trace := rfl
@[simp] theorem encodeStep_resp : (encodeStep s).resp = s.resp := rfl
@[simp] theorem encodeStep_inputs : (encodeStep s).inputs = s.inputs := rfl
@[simp] theorem encodeStep_answers : (encodeStep s).answers = s.answers := rfl
@[simp] theorem encodeStep_drvCount : (encodeStep s).drvCount = s.drvCount := rfl
@[simp] theorem encodeStep_delays : (encodeStep s).delays = s.delays := rfl
@[simp] theorem encodeStep_delayCount : (encodeStep s).delayCount = s.delayCount := rfl
@[simp] theorem encodeStep_params : (encodeStep s).params = s.params := rfl

end Sys2Proof.Machine
end

