-- ==== Sys2Proof/Laws/Ops.lean ====
section
/-! SUPPORT. One lemma per shared operation that says what it does, and the inversion of a step. -/

namespace Sys2Proof.Machine

/-! ### The environment -/

/-- A draw is never above its bound (42_waveform_transmitter.md R138, R139). -/
theorem nextDelay_le (bound : Nat) (s : State) : nextDelay bound s ≤ bound := by
  unfold nextDelay
  split
  · omega
  · split <;> exact Nat.min_le_right _ _

/-- The reference hardware draws 0. -/
@[simp] theorem nextDelay_zero (s : State) : nextDelay 0 s = 0 := by simp [nextDelay]

/-- What a draw is allowed to be (42_waveform_transmitter.md R138, R139; log 3). -/
theorem nextDelay_isDraw (bound : Nat) (s : State) : IsDraw bound (nextDelay bound s) s := by
  refine ⟨nextDelay_le bound s, fun x rest hd hx => ?_⟩
  unfold nextDelay
  split
  · omega
  · rw [hd]; exact Nat.min_eq_left hx

/-- The latency of the next driver operation. -/
abbrev latency (s : State) : Nat := nextDelay s.params.setLatencyUs s

theorem latency_isDraw (s : State) : IsDraw s.params.setLatencyUs (latency s) s := nextDelay_isDraw _ s

/-- A driver operation answered `ok` (44_gpio_output.md R191, R193, R194). -/
theorem driverOp_ok (op : DrvOp) {s : State} (h : nextAnswer s = .ok) :
    driverOp op s = driveLine op (answered op .ok (latency s) s) := by
  simp only [driverOp, h]; rfl

/-- A driver operation answered `err` leaves LINE alone. -/
theorem driverOp_err (op : DrvOp) {s : State} (h : nextAnswer s = .err) :
    driverOp op s = answered op .err (latency s) s := by
  simp only [driverOp, h]; rfl

/-! ### The sequencer -/

theorem finish_eq (c : ResultCode) (s : State) : finish c s = idleWith c s := rfl

/-- SEQ_IDX moves while entries are left. -/
theorem seqAdvance_more {s : State} (h : s.seqIdx + 1 < uopCount s.uops) :
    seqAdvance s = { s with seqIdx := s.seqIdx + 1 } := by simp [seqAdvance, h]

/-- The last entry's completion finishes the command OK (42_waveform_transmitter.md R142). -/
theorem seqAdvance_last {s : State} (h : ¬ s.seqIdx + 1 < uopCount s.uops) :
    seqAdvance s = idleWith .ok s := by simp [seqAdvance, h, finish_eq]

theorem transmitSet_ok (op : DrvOp) {s : State} (h : nextAnswer s = .ok) :
    transmitSet op s = seqAdvance (driveLine op (answered op .ok (latency s) s)) := by
  simp only [transmitSet, h, driverOp_ok op h]

theorem transmitSet_err (op : DrvOp) {s : State} (h : nextAnswer s = .err) :
    transmitSet op s = idleWith .errIo (answered op .err (latency s) s) := by
  simp only [transmitSet, h, driverOp_err op h, finish_eq]

/-- HOLD moves time by its duration and a draw, and leaves TIMER at 0 (42_waveform_transmitter.md R138). -/
theorem holdFully_eq (d : Duration) (s : State) :
    holdFully d s =
      { s with
        time := s.time + d.toNat + nextDelay s.params.holdSlackUs s, timer := 0#41
        delays := s.delays.tail, delayCount := s.delayCount + 1 } := rfl

theorem endInit_ok {s : State} (h : nextAnswer s = .ok) :
    endInit s =
      idleWith .ok
        { writeDevice (driveLine .acquire (answered .acquire .ok (latency s) s)) with lifecycle := .enabled } := by
  simp only [endInit, h, driverOp_ok .acquire h, finish_eq]

theorem endInit_err {s : State} (h : nextAnswer s = .err) :
    endInit s = idleWith .errAcquire (answered .acquire .err (latency s) s) := by
  simp only [endInit, h, driverOp_err .acquire h, finish_eq]

theorem endCleanup_ok {s : State} (h : nextAnswer s = .ok) :
    endCleanup s =
      idleWith .ok { driveLine .release (answered .release .ok (latency s) s) with lifecycle := .disabled } := by
  simp only [endCleanup, h, driverOp_ok .release h, finish_eq]

theorem endCleanup_err {s : State} (h : nextAnswer s = .err) :
    endCleanup s =
      idleWith .errRelease
        { answered .release .err (latency s) s with
          lifecycle := failedReleaseState s.params.releaseFailState } := by
  simp only [endCleanup, h, driverOp_err .release h, finish_eq]

/-! ### Command issue -/

theorem issueCommand_busy (start : State → State) {s : State} (h : s.busy = true) :
    issueCommand start s = { s with reject := true } := by simp [issueCommand, h]

theorem issueCommand_idle (start : State → State) {s : State} (h : s.busy = false) :
    issueCommand start s = start { s with reject := false } := by simp [issueCommand, h]

/-- ARG_PROTO 1 to 6 gives the index one below (30_encoding.md R73). -/
theorem initIndex_eq_some {w : Word} {i : Fin 6} : initIndex w = some i ↔ w.toNat = i.val + 1 := by
  unfold initIndex
  dsimp only
  split
  · rename_i h
    simp only [Option.some.injEq]
    constructor
    · intro e; have := congrArg Fin.val e; simp at this; omega
    · intro e; apply Fin.ext; simp; omega
  · rename_i h
    simp only [reduceCtorEq, false_iff]
    intro e; apply h; have := i.isLt; omega

theorem initIndex_eq_none {w : Word} : initIndex w = none ↔ w.toNat < 1 ∨ 6 < w.toNat := by
  unfold initIndex
  dsimp only
  split
  · simp only [reduceCtorEq, false_iff]; omega
  · simp only [true_iff]; omega

/-! ### The window -/

/-- The one access form the block accepts (20_memory.md R55). -/
theorem accessOk_iff {size : BitVec 8} {off : BitVec 32} :
    accessOk size off = true ↔ size.toNat = 4 ∧ off.toNat % 4 = 0 ∧ off.toNat < 256 := by
  simp [accessOk]

/-- The map of the window: each register at its own offset, and nowhere else (20_memory.md R51). -/
theorem regAt_eq_some {off : Nat} {r : Reg} : regAt off = some r ↔ off = regOffset r := by
  constructor
  · intro h
    have := List.find?_some h
    simp only [beq_iff_eq] at this
    exact this.symm
  · rintro rfl
    cases r with
    | lutW0 i => revert i; decide
    | lutW1 i => revert i; decide
    | _ => rfl

/-- Offsets that are no register's are reserved (20_memory.md R51). -/
theorem regAt_eq_none {off : Nat} : regAt off = none ↔ ∀ r, off ≠ regOffset r := by
  constructor
  · rintro h r rfl
    rw [regAt_eq_some.2 rfl] at h
    exact nomatch h
  · intro h
    cases hr : regAt off with
    | none => rfl
    | some r => exact absurd (regAt_eq_some.1 hr) (h r)

/-! ### What a step can do -/

/-- The state the sequencer's turn of a step starts from: the input list without its tick, if there was
one. -/
def turnState (s : State) : State := { s with inputs := s.inputs.tail }

/-- A step that goes on is a reset, a host access or the sequencer's turn (log 1). -/
theorem step_cases {s t : State} (h : step s = .next t) :
    (∃ rest, s.inputs = .rst :: rest ∧ t = applyReset { s with inputs := rest }) ∨
    (∃ c rest, s.inputs = .bus c :: rest ∧ exec c.toInstr { s with inputs := rest } = .next t) ∨
    ((s.inputs = [] ∨ ∃ rest, s.inputs = .tick :: rest) ∧ sequencerTurn (turnState s) = .next t) := by
  unfold step at h
  split at h
  · rename_i hi
    refine .inr (.inr ⟨.inl hi, ?_⟩)
    have e : turnState s = s := by cases s; simp_all [turnState]
    rw [e]; exact h
  · rename_i rest hi
    refine .inr (.inr ⟨.inr ⟨rest, hi⟩, ?_⟩)
    have e : turnState s = { s with inputs := rest } := by simp [turnState, hi]
    rw [e]; exact h
  · rename_i c rest hi
    exact .inr (.inl ⟨c, rest, hi, h⟩)
  · rename_i rest hi
    refine .inl ⟨rest, hi, ?_⟩
    cases h; rfl

/-- A sequencer's turn that goes on leaves an idle block alone, ends a SEND with no entry left, or performs
the micro-operation at SEQ_IDX (42_waveform_transmitter.md R142). -/
theorem sequencerTurn_cases {s t : State} (h : sequencerTurn s = .next t) :
    (s.busy = false ∧ t = s) ∨
    (s.busy = true ∧ uopAt s.uops s.seqIdx = none ∧ s.curCmd = .send ∧ t = idleWith .ok s) ∨
    (s.busy = true ∧ ∃ w m, uopAt s.uops s.seqIdx = some w ∧ decodeMicroOp w = .ok m ∧
      exec m.toInstr s = .next t) := by
  unfold sequencerTurn at h
  split at h
  · rename_i hb
    split at h
    · rename_i w hw
      simp only [decode] at h
      cases hm : decodeMicroOp w with
      | ok m => rw [hm] at h; exact .inr (.inr ⟨hb, w, m, hw, hm, h⟩)
      | error e => rw [hm] at h; simp at h
    · rename_i hn
      split at h
      · rename_i hc
        cases h
        exact .inr (.inl ⟨hb, hn, hc, rfl⟩)
      · simp at h
  · rename_i hb
    cases h
    exact .inl ⟨by simpa using hb, rfl⟩

/-- What a micro-operation's meaning does. -/
theorem exec_microOp_cases {m : MicroOp} {s t : State} (h : exec m.toInstr s = .next t) :
    (∃ op, m = .drv op ∧ (op = .setLow ∨ op = .setHigh) ∧ t = transmitSet op s) ∨
    (m = .drv .acquire ∧ t = endInit s) ∨
    (m = .drv .release ∧ t = endCleanup s) ∨
    (∃ d, m = .hold d ∧ t = seqAdvance (holdFully d s)) := by
  cases m with
  | drv op => cases op <;> cases h <;> simp
  | hold d => cases h; simp

/-- What a bus cycle's meaning does. -/
theorem exec_busCycle_cases {c : BusCycle} {s t : State} (h : exec c.toInstr s = .next t) :
    (∃ off, t = busError off s) ∨ (∃ v, t = readDone v s) ∨
    (∃ off v, t = writeDone (memWrite off v s)) ∨
    (∃ start, (start = startInit ∨ start = startSend ∨ start = startCleanup ∨ start = startIllegal) ∧
      t = writeDone (issueCommand start s)) := by
  cases c with
  | read size off =>
    simp only [BusCycle.toInstr, exec, execRd] at h
    split at h <;> cases h
    · exact .inr (.inl ⟨_, rfl⟩)
    · exact .inl ⟨_, rfl⟩
  | write size off data =>
    simp only [BusCycle.toInstr, exec, execWr] at h
    split at h
    · split at h
      · refine .inr (.inr (.inr ?_))
        cases hc : decodeCommand data <;> rw [hc] at h <;> cases h
        · exact ⟨startInit, by simp, rfl⟩
        · exact ⟨startSend, by simp, rfl⟩
        · exact ⟨startCleanup, by simp, rfl⟩
        · exact ⟨startIllegal, by simp, rfl⟩
      · cases h; exact .inr (.inr (.inl ⟨_, _, rfl⟩))
    · cases h; exact .inl ⟨_, rfl⟩

/-- What a store to the window does: nothing, or one of the six registers (20_memory.md R53, R54). -/
theorem memWrite_cases (off : Nat) (v : Word) (s : State) :
    memWrite off v s = s ∨ memWrite off v s = { s with argProto := v } ∨
    memWrite off v s = { s with argRepeat := v } ∨ memWrite off v s = { s with argPulse := v } ∨
    memWrite off v s = { s with argBitlen := v } ∨ memWrite off v s = { s with codeLo := v } ∨
    memWrite off v s = { s with codeHi := v } := by
  unfold memWrite
  split
  · rename_i r _
    cases r <;> simp [storeReg]
  · exact .inl rfl

end Sys2Proof.Machine
end

