-- ==== Sys2Proof/Laws/PerInstr.lean ====
section
/-! SUPPORT. The family EncodedLength: how many bytes each instruction's encoding has. -/

namespace Sys2Proof.Laws.EncodedLength

/-- The bytes an instruction's row has: 4 for a command word (30_encoding.md R70), 1 for a driver operation
(R76), 6 for a micro-operation word (R78), 10 for a bus line (log 13). -/
def rowBytes : Instr → Nat
  | .init | .send | .cleanup | .illegalCmd _ => 4
  | .rd _ _ | .wr _ _ _ => 10
  | .setLow | .setHigh | .acquire | .release => 1
  | .hold _ => 6

/-- The encoding is as long as its row. -/
def Statement (i : Instr) : Prop := (encodeBytes (encode i)).length = rowBytes i

theorem init : Statement .init := rfl
theorem send : Statement .send := rfl
theorem cleanup : Statement .cleanup := rfl
theorem illegalCmd (word : Word) : Statement (.illegalCmd word) := rfl
theorem rd (size : BitVec 8) (off : BitVec 32) : Statement (.rd size off) := rfl
theorem wr (size : BitVec 8) (off : BitVec 32) (value : Word) : Statement (.wr size off value) := rfl
theorem setLow : Statement .setLow := rfl
theorem setHigh : Statement .setHigh := rfl
theorem acquire : Statement .acquire := rfl
theorem release : Statement .release := rfl
theorem hold (dur : Duration) : Statement (.hold dur) := rfl

end Sys2Proof.Laws.EncodedLength
end

