-- ==== Sys2Proof/Machine/Asm.lean ====
section
/-! DEFINITION. The host's assembly lines and pseudo-instructions as bus cycles (30_encoding.md R80, R81). -/

namespace Sys2Proof.Machine

/-- `wr <REG>, <value>` (R80). -/
def asmWr (r : Reg) (value : Word) : BusCycle := .write 4#8 (BitVec.ofNat 32 (regOffset r)) value

/-- `rd <REG>` (R80). -/
def asmRd (r : Reg) : BusCycle := .read 4#8 (BitVec.ofNat 32 (regOffset r))

/-- `cmd <MNEMONIC>` (R80). -/
def asmCmd (c : Command) : BusCycle := asmWr .cmd (encodeCommand c)

/-- `init p, r, pl, bl`, without its `wait` (R81). -/
def asmInit (p r pl bl : Word) : List BusCycle :=
  [asmWr .argProto p, asmWr .argRepeat r, asmWr .argPulse pl, asmWr .argBitlen bl, asmCmd .init]

/-- `send c`, without its `wait` (R81). -/
def asmSend (c : Code) : List BusCycle :=
  [asmWr .codeLo (c.extractLsb' 0 32), asmWr .codeHi (c.extractLsb' 32 32), asmCmd .send]

/-- `cleanup`, without its `wait` (R81). -/
def asmCleanup : List BusCycle := [asmCmd .cleanup]

/-- One turn of `wait`'s loop is `rd STATUS`; the loop goes on while bit 2 of what it gave is 1 (R81). -/
def waitGoesOn (r : BusResponse) : Bool :=
  match r with
  | .data v => v.getLsbD 2
  | _ => false

end Sys2Proof.Machine
end

