-- ==== Sys2Proof/Tests/Slice0.lean ====
section
/-! SUPPORT. The author's own tests: words written out from the spec, the vectors of 95_test_vectors.md one
step at a time, and a state for the hypotheses of each statement. -/

namespace Sys2Proof.Tests

open Sys2Proof.Machine

/-! ### Well-formedness refuses what it must -/

theorem test_wf_refuses_init_as_illegal : Instr.wf (.illegalCmd 0x1#32) = false := by decide
theorem test_wf_refuses_send_as_illegal : Instr.wf (.illegalCmd 0x2#32) = false := by decide
theorem test_wf_refuses_cleanup_as_illegal : Instr.wf (.illegalCmd 0x3#32) = false := by decide
theorem test_wf_accepts_other_word : Instr.wf (.illegalCmd 0x11#32) = true := by decide
theorem test_wf_refuses_hold_above_range : Instr.wf (.hold 1095216660226#41) = false := by decide
theorem test_wf_accepts_longest_hold : Instr.wf (.hold 1095216660225#41) = true := by decide

/-! ### Words written out bit by bit (30_encoding.md R71, R76, R78); the bytes of a bus line are log 13 -/

theorem test_word_init : decode (.cmd 0b00000000000000000000000000000001#32) = .ok .init := by decide
theorem test_word_send : decode (.cmd 0b00000000000000000000000000000010#32) = .ok .send := by decide
theorem test_word_cleanup : decode (.cmd 0b00000000000000000000000000000011#32) = .ok .cleanup := by decide
theorem test_word_zero : decode (.cmd 0x00000000#32) = .ok (.illegalCmd 0x00000000#32) := by decide
/-- X-03: MBZ ≠ 0 is illegal whatever OPCODE is. -/
theorem test_word_mbz : decode (.cmd 0x00000011#32) = .ok (.illegalCmd 0x00000011#32) := by decide
theorem test_drv_setLow : decode (.drv 0b00#2) = .ok .setLow := by decide
theorem test_drv_setHigh : decode (.drv 0b01#2) = .ok .setHigh := by decide
theorem test_drv_acquire : decode (.drv 0b10#2) = .ok .acquire := by decide
theorem test_drv_release : decode (.drv 0b11#2) = .ok .release := by decide
/-- KIND 0b000, 0b001, 0b010, 0b011 with DUR 0. -/
theorem test_uop_setLow : decode (.uop 0x00000000000#44) = .ok .setLow := by decide
theorem test_uop_setHigh : decode (.uop 0x20000000000#44) = .ok .setHigh := by decide
theorem test_uop_acquire : decode (.uop 0x40000000000#44) = .ok .acquire := by decide
theorem test_uop_release : decode (.uop 0x60000000000#44) = .ok .release := by decide
/-- KIND 0b100 with DUR 10,850 = 0x2A62 (R138's example). -/
theorem test_uop_hold : decode (.uop 0x80000002A62#44) = .ok (.hold 10850#41) := by decide
theorem test_uop_hold_all_dur : decode (.uop 0x9FFFFFFFFFF#44) = .ok (.hold 0x1FFFFFFFFFF#41) := by decide
theorem test_uop_reserved_kind : decode (.uop 0xA0000000000#44) = .rejected .reservedKind := by decide
theorem test_uop_nonzero_dur : decode (.uop 0x20000000001#44) = .rejected .nonzeroDur := by decide
/-- P3: `R 20`. -/
theorem test_line_rd :
    decodeBytes .bus [0x52, 4, 0x20, 0, 0, 0, 0, 0, 0, 0] = .ok (.rd 4#8 0x20#32) := by decide
/-- P1: `W 10 0000015E`. -/
theorem test_line_wr :
    decodeBytes .bus [0x57, 4, 0x10, 0, 0, 0, 0x5E, 0x01, 0, 0] = .ok (.wr 4#8 0x10#32 350#32) := by
  decide
theorem test_line_other_letter :
    decodeBytes .bus [0x58, 4, 0x10, 0, 0, 0, 0, 0, 0, 0] = .rejected .notABusCycle := by decide
theorem test_bytes_short : decodeBytes .cmd [1, 0, 0] = .rejected .wrongLength := by decide
theorem test_bytes_padding : decodeBytes .drv [4] = .rejected .nonzeroPadding := by decide

theorem test_table_send : decodeTableWord 32 2 = some .send := by decide
theorem test_table_release : decodeTableWord 8 3 = some .release := by decide
theorem test_table_hold : decodeTableWord 48 0x8000000015E = some (.hold 350#41) := by decide
theorem test_encode_hold : encode (.hold 350#41) = .uop 0x8000000015E#44 := by decide
theorem test_encode_acquire : encodeMicroOp (.drv .acquire) = 0x40000000000#44 := by decide

/-! ### States -/

/-- Reset of the reference hardware, with these answers to come. -/
def reference (answers : List Answer) : State :=
  { State.reset with
    params := { holdSlackUs := 0, setLatencyUs := 0, releaseFailState := .enabled }, answers := answers }

/-- An enabled device (proto 1-based, repeats, pulse, bit length), as `init` leaves it. -/
def enabledDevice (proto : Fin 6) (rep pulse len : Word) (answers : List Answer) : State :=
  { reference answers with
    lifecycle := .enabled, lineOwned := true, devProto := proto, devRepeat := rep, devPulse := pulse
    devBitlen := len }

/-- A plan of protocol 1 at 350 µs: code 5 in 4 bits, sent once (W-01). -/
def plan5 : SendPlan :=
  { proto := 0, pulse := 350#32, repeats := 1#32, code := 5#64, llen := 4#33, txlen := 4#32 }

/-- W-01 while it is sent, at entry `k`. -/
def sending (k : Nat) (answers : List Answer) : State :=
  { enabledDevice 0 1#32 350#32 4#32 answers with
    busy := true, curCmd := .send, lcode := 5#64, llen := 4#33, txlen := 4#32, uops := .send plan5
    seqIdx := k }

/-- An accepted INIT of protocol 6 before its ACQUIRE. -/
def acquiring (answers : List Answer) : State :=
  { reference answers with
    busy := true, curCmd := .init, uops := .words [0x40000000000#44]
    latProto := 5, latRepeat := 1#32, latPulse := 200#32, latBitlen := 2#32 }

/-- An accepted CLEANUP before its RELEASE. -/
def releasing (answers : List Answer) (fails : ReleaseFailState) : State :=
  { enabledDevice 0 1#32 1#32 1#32 answers with
    busy := true, curCmd := .cleanup, uops := .words [0x60000000000#44]
    params := { holdSlackUs := 0, setLatencyUs := 0, releaseFailState := fails } }

/-- A value of the next state, if there is one. -/
def nextValue {α : Type} (o : Host.Outcome State Fault Refusal) (f : State → α) : Option α :=
  match o with
  | .next t => some (f t)
  | _ => none

/-- STATUS and LINE of the next state. -/
def statusAndLine (o : Host.Outcome State Fault Refusal) : Option (Word × Word) :=
  nextValue o fun t => (statusWord t, lineWord t)

/-! ### One step each, from 95_test_vectors.md -/

/-- C-02: `init 0` answers ERR_BAD_PROTOCOL. -/
theorem test_init_proto0 : statusAndLine (exec .init (reference [])) = some (0x60, 0) := by decide
/-- C-05, X-08: ownership is checked before the protocol. -/
theorem test_init_enabled : statusAndLine (exec .init (enabledDevice 0 1 1 1 [])) = some (0x71, 2) := by decide
/-- C-10: a SEND on a disabled device. -/
theorem test_send_disabled :
    statusAndLine (exec .send { reference [] with lifecycle := .disabled }) = some (0x12, 0) := by decide
/-- P5, W-06: R = 0 finishes OK at acceptance and still widens. -/
theorem test_send_zero_repeats :
    nextValue (exec .send { enabledDevice 2 0 100 24 [] with codeLo := 0x40000005#32 })
      (fun t => (statusWord t, t.devBitlen)) = some (0x1, 32) := by decide
/-- C-09: a second CLEANUP. -/
theorem test_cleanup_twice :
    statusAndLine (exec .cleanup { reference [] with lifecycle := .disabled }) = some (0x22, 0) := by decide
/-- X-04: CLEANUP while a SEND runs is rejected. -/
theorem test_cleanup_busy : statusAndLine (exec .cleanup (sending 0 [])) = some (0x0D, 2) := by decide
/-- X-02. -/
theorem test_illegal_idle : statusAndLine (exec (.illegalCmd 0) (enabledDevice 0 1 1 1 [])) = some (0x81, 2) := by
  decide
/-- X-07: BUSY is checked before the word. -/
theorem test_illegal_busy : statusAndLine (exec (.illegalCmd 7) (sending 0 [])) = some (0x0D, 2) := by decide
/-- T-04. -/
theorem test_rd_lut : nextValue (exec (.rd 4 0x50) (sending 0 [])) (·.resp) = some (.data 0x471E0064) := by decide
/-- X-09. -/
theorem test_rd_byte : nextValue (exec (.rd 1 0x04) (reference [])) (·.resp) = some (.busError 0x04) := by decide
/-- X-13. -/
theorem test_wr_pulse :
    nextValue (exec (.wr 4 0x10 0xFFFFFFFF) (reference [])) (fun t => (t.argPulse, t.resp))
      = some (0xFFFFFFFF, .written) := by decide
/-- X-10: misaligned, so nothing is stored. -/
theorem test_wr_misaligned :
    nextValue (exec (.wr 4 0x0A 7) (reference [])) (fun t => (t.argProto, t.resp))
      = some (0, .busError 0x0A) := by decide
/-- R139's example: LINE reads 3 after the first SET_HIGH. -/
theorem test_setHigh_ok : statusAndLine (exec .setHigh (sending 0 [.ok])) = some (0x05, 3) := by decide
/-- C-17: the first SET answers `err`. -/
theorem test_setHigh_err : statusAndLine (exec .setHigh (sending 0 [.err])) = some (0x31, 2) := by decide
/-- P4: SET_LOW answers `err` with the line high. -/
theorem test_setLow_err :
    statusAndLine (exec .setLow { sending 2 [.err] with lineLevel := true }) = some (0x31, 3) := by decide
theorem test_setLow_ok :
    nextValue (exec .setLow { sending 2 [.ok] with lineLevel := true, time := 350 })
      (fun t => (lineWord t, t.seqIdx, t.trace))
      = some (2, 3, [{ time := 350, op := .setLow, res := .ok }]) := by decide
/-- C-13: a new device of protocol 6. -/
theorem test_acquire_ok :
    nextValue (exec .acquire (acquiring [.ok]))
      (fun t => (statusWord t, lineWord t, t.devProto, t.devPulse)) = some (0x01, 2, 5, 200) := by decide
/-- C-04. -/
theorem test_acquire_err : statusAndLine (exec .acquire (acquiring [.err])) = some (0x50, 0) := by decide
/-- C-08, C-11 and C-12. -/
theorem test_release_ok : statusAndLine (exec .release (releasing [.ok] .enabled)) = some (0x02, 0) := by decide
theorem test_release_err :
    statusAndLine (exec .release (releasing [.err] .enabled)) = some (0x41, 2) ∧
      statusAndLine (exec .release (releasing [.err] .disabled)) = some (0x42, 2) := by decide
/-- W-01, W-02: the last entry, HOLD(1), finishes the SEND at 16,801. -/
theorem test_hold_last :
    nextValue (exec (.hold 1) { sending 20 [] with time := 16800 }) (fun t => (statusWord t, t.time))
      = some (0x01, 16801) := by decide
/-- A draw above HOLD_SLACK_US is cut to it (R138). -/
theorem test_hold_slack :
    nextValue (exec (.hold 350)
        { sending 1 [] with
          params := { holdSlackUs := 5, setLatencyUs := 0, releaseFailState := .enabled }, delays := [9] })
      (fun t => (t.time, t.seqIdx, t.timer)) = some (355, 2, 0) := by decide
/-- RST while a SEND runs (R232). -/
theorem test_reset_busy :
    statusAndLine (step { sending 3 [] with inputs := [.rst] }) = some (0, 0) := by decide

/-! ### Encoder and waveform vectors -/

theorem test_E06 : digitString 5121438 (digitCount (bitlen 5121438) 24) = "010011100010010110011110".toList := by
  decide +kernel
/-- E-13: longer than B. -/
theorem test_E13 : digitString 64 (digitCount (bitlen 64) 4) = "00000".toList := by decide
/-- E-14. -/
theorem test_E14 :
    digitString 0x10000003039 (digitCount (bitlen 0x10000003039) 24)
      = "000000000000000000000000011000000111001".toList := by decide +kernel
/-- E-08 and E-18: the threshold is strict. -/
theorem test_E08 : widenedBitlen 16777216 24 = 24 := by decide
theorem test_E18 : widenedBitlen 16777217 24 = 32 := by decide
/-- The source's algorithm on E-12. -/
theorem test_E12_source : sourceDigits 63 4 = "1111".toList := by decide
/-- W-02, the closed form for W-01. -/
theorem test_W02 :
    sendLen plan5 = 21 ∧ sendEntry plan5 0 = .drv .setHigh ∧ sendEntry plan5 1 = .hold 350 ∧
      sendEntry plan5 3 = .hold 1050 ∧ sendEntry plan5 5 = .hold 1050 ∧ sendEntry plan5 16 = .drv .setHigh ∧
      sendEntry plan5 17 = .hold 350 ∧ sendEntry plan5 19 = .hold 10850 ∧ sendEntry plan5 20 = .hold 1 := by
  decide
/-- Section 2.1: F of L1-1 under protocol 1. -/
theorem test_frame_time :
    frameTime { plan5 with code := 5121438, llen := 24, txlen := 24 } = 44801 := by decide +kernel
/-- R81's `cleanup`. -/
theorem test_asm_cleanup : asmCleanup = [.write 4 0 3] := by decide

/-! ### A state for the hypotheses of each statement -/

theorem goodState_reset : GoodState (reference []) := by constructor <;> decide
theorem goodState_sending : GoodState (sending 0 [.ok]) := by constructor <;> decide
theorem goodState_last_entry : GoodState (sending 20 []) := by constructor <;> decide
theorem goodState_acquiring : GoodState (acquiring [.ok]) := by constructor <;> decide
theorem goodState_releasing : GoodState (releasing [.ok] .disabled) := by constructor <;> decide

/-- A step that goes on, for the statements with `step s = .next t`. -/
theorem witness_step_goes_on :
    (∃ t, step (sending 0 [.ok]) = .next t) ∧ (∃ t, step (sending 20 []) = .next t) ∧
    (∃ t, step (sending 0 [.err]) = .next t) ∧ (∃ t, step (acquiring [.ok]) = .next t) ∧
    (∃ t, step (releasing [.ok] .disabled) = .next t) :=
  ⟨⟨_, rfl⟩, ⟨_, rfl⟩, ⟨_, rfl⟩, ⟨_, rfl⟩, ⟨_, rfl⟩⟩

theorem witness_ResetLeavesSpecifiedValues : ({ sending 3 [] with inputs := [.rst] } : State).inputs = [.rst] := rfl
theorem witness_StepRunsDecodedInstruction :
    Instr.wf .init = true ∧ decode (.bus (.read 4 0)) = .ok (.rd 4 0) ∧ Instr.wf (.rd 4 0) = true ∧
      uopAt (sending 0 []).uops (sending 0 []).seqIdx = some 0x20000000000#44 ∧ (sending 0 []).busy = true ∧
      decode (.uop 0x20000000000#44) = .ok .setHigh ∧ Instr.wf .setHigh = true ∧ (sending 0 []).inputs = [] := by
  decide
theorem witness_WriteToCmdRunsDecodedCommand :
    ({ reference [] with inputs := [.bus (.write 4 0 2)] } : State).inputs = [.bus (.write 4#8 0#32 2#32)] ∧
      decode (.cmd 2#32) = .ok .send := by decide
theorem witness_IdleBlockKeepsAllState : (reference []).busy = false ∧ (reference []).inputs = [] := by decide
theorem witness_DecodeOfEncodeIsInstruction :
    Instr.wf (.illegalCmd 0) = true ∧ Instr.wf (.hold 1095216660225) = true ∧
      Instr.wf (.wr 255 0xFFFFFFFF 0xFFFFFFFF) = true := by decide
theorem witness_UngeneratedMicroOpWordsAreRejected :
    5 ≤ (0xA0000000000#44).toNat / 2 ^ 41 ∧ 5 ≤ (0xFFFFFFFFFFF#44).toNat / 2 ^ 41 ∧
      (0x7FFFFFFFFFF#44).toNat / 2 ^ 41 < 4 ∧ (0x7FFFFFFFFFF#44).toNat % 2 ^ 41 ≠ 0 ∧
      (0x80000000000#44).toNat / 2 ^ 41 = 4 ∧ (0x9FFFFFFFFFF#44).toNat / 2 ^ 41 = 4 ∧
      (0x00000000000#44).toNat / 2 ^ 41 = 0 ∧ (0x20000000000#44).toNat / 2 ^ 41 = 1 ∧
      (0x40000000000#44).toNat / 2 ^ 41 = 2 ∧ (0x60000000000#44).toNat / 2 ^ 41 = 3 ∧
      (0x60000000000#44).toNat % 2 ^ 41 = 0 := by decide
theorem witness_EncodeOfDecodeIsWord : (decodeMicroOp 0x80000000000#44).toOption = some (.hold 0) := by decide
theorem witness_LutReadsGiveTableWords : (0x40#32, 0x1F01015E#32) ∈ [(0x40#32, 0x1F01015E#32)] := by decide
/-- The reserved ranges at both ends: 0x70 and 0xFC. -/
theorem witness_ReadGivesRegisterAndChangesNothing :
    (0x70#32).toNat % 4 = 0 ∧ 0x70 ≤ (0x70#32).toNat ∧ (0xFC#32).toNat % 4 = 0 ∧ (0xFC#32).toNat < 0x100 := by
  decide
theorem witness_WriteStoresOrIsIgnored :
    (0x04#32).toNat = 0x04 ∧ 0x20 ≤ (0x20#32).toNat ∧ (0xFC#32).toNat % 4 = 0 ∧ (0xFC#32).toNat < 0x100 := by
  decide
/-- Each way an access is malformed, at its boundary. -/
theorem witness_MalformedAccessChangesNoState :
    (8#8).toNat ≠ 4 ∧ (0x0A#32).toNat % 4 ≠ 0 ∧ 0x100 ≤ (0x100#32).toNat := by decide
theorem witness_StoreChangesOnlyItsFourBytes :
    (0x08#32).toNat % 4 = 0 ∧ (0x08#32).toNat ≠ 0 ∧ 0x08 ≤ (0x08#32).toNat ∧ (0x1C#32).toNat < 0x20 ∧
      ¬ ((0x08#32).toNat ≤ 0x07 ∧ 0x07 < (0x08#32).toNat + 4) ∧
      ¬ ((0x08#32).toNat ≤ 0x0C ∧ 0x0C < (0x08#32).toNat + 4) ∧ (0xFC#32).toNat < 0x100 := by decide
/-- The ends of each range: 0x04, 0x20 and 0xFC; 0x00, 0x34, 0x3C, 0x70 and 0xFC. -/
theorem witness_ReservedOffsetsReadZeroAndIgnoreWrites :
    (0x04#32).toNat = 0x04 ∧ 0x20 ≤ (0x20#32).toNat ∧ (0xFC#32).toNat < 0x100 ∧ (0xFC#32).toNat % 4 = 0 ∧
      0x34 ≤ (0x34#32).toNat ∧ (0x3C#32).toNat ≤ 0x3C ∧ 0x70 ≤ (0x70#32).toNat ∧ (0x00#32).toNat = 0 := by decide
theorem witness_BusyBlockRejectsEveryCommand :
    (sending 0 []).busy = true ∧ (reference []).busy = false ∧ decode (.cmd 0#32) = .ok (.illegalCmd 0#32) := by
  decide
theorem witness_IllegalWordEndsInErrBadCmd :
    (reference []).busy = false ∧ (sending 0 []).busy = true ∧ (0#32) ≠ 1#32 ∧ (0#32) ≠ 2#32 ∧ (0#32) ≠ 3#32 ∧ (4#32) ≠ 3#32 := by decide
theorem witness_CommandWriteIsAcknowledged : decode (.cmd 3#32) = .ok .cleanup := by decide
/-- Both ends of the table's range. -/
theorem witness_InitStartsAcquire :
    (reference []).busy = false ∧ (reference []).lifecycle ≠ .enabled ∧ (reference []).lineOwned = false ∧
      ({ reference [] with argProto := 1 } : State).argProto.toNat = (0 : Fin 6).val + 1 ∧
      ({ reference [] with argProto := 6 } : State).argProto.toNat = (5 : Fin 6).val + 1 := by decide
/-- An enabled device, and a line left owned by a failed release. -/
theorem witness_InitRefusedWhileLineOwned :
    (enabledDevice 0 1 1 1 []).busy = false ∧ (enabledDevice 0 1 1 1 []).lifecycle = .enabled ∧
      ({ reference [] with lifecycle := .disabled, lineOwned := true } : State).lineOwned = true := by decide
theorem witness_InitRefusesProtocolOutsideTable :
    (reference []).argProto.toNat < 1 ∧ 6 < ({ reference [] with argProto := 7 } : State).argProto.toNat ∧
      (reference []).busy = false ∧ (reference []).lifecycle ≠ .enabled ∧ (reference []).lineOwned = false := by
  decide
theorem witness_SendEncodesAndStartsList :
    (enabledDevice 0 1 1 1 []).busy = false ∧ (enabledDevice 0 1 1 1 []).lifecycle = .enabled ∧
      (enabledDevice 0 1 1 1 []).devRepeat ≠ 0#32 := by decide
theorem witness_SendWithZeroRepeatsEndsAtOnce :
    (enabledDevice 0 0 1 1 []).busy = false ∧ (enabledDevice 0 0 1 1 []).lifecycle = .enabled ∧
      (enabledDevice 0 0 1 1 []).devRepeat = 0#32 := by decide
theorem witness_SendRefusedWithoutEnabledDevice :
    (reference []).busy = false ∧ (reference []).lifecycle = .none ∧
      ({ reference [] with lifecycle := .disabled } : State).lifecycle = .disabled := by decide
theorem witness_CleanupStartsRelease :
    (enabledDevice 0 1 1 1 []).busy = false ∧ (enabledDevice 0 1 1 1 []).lifecycle = .enabled := by decide
theorem witness_CleanupStateErrorsHaveNoOtherEffect :
    (reference []).busy = false ∧ (reference []).lifecycle = .none ∧
      ({ reference [] with lifecycle := .disabled } : State).lifecycle = .disabled := by decide
/-- A listed latency at its bound: a draw the statements about driver operations take as it is. -/
def latencyListed (s : State) : State :=
  { s with params := { s.params with setLatencyUs := 5 }, delays := [5] }
theorem witness_listedLatency :
    (latencyListed (acquiring [.ok])).delays = [5] ∧ 5 ≤ (latencyListed (acquiring [.ok])).params.setLatencyUs ∧
      nextAnswer (latencyListed (acquiring [.ok])) = .ok ∧
      nextValue (exec .acquire (latencyListed (acquiring [.ok]))) (·.time) = some 5 ∧
      nextValue (exec .release (latencyListed (releasing [.ok] .enabled))) (·.time) = some 5 ∧
      nextValue (exec .setHigh (latencyListed (sending 0 [.ok]))) (·.time) = some 5 ∧
      nextValue (exec .setLow (latencyListed (sending 2 [.ok]))) (·.time) = some 5 := by decide
theorem witness_AcquireConstructsDeviceOrFails :
    nextAnswer (acquiring [.ok]) = .ok ∧ nextAnswer (acquiring [.err]) = .err := by decide
theorem witness_ReleaseDisablesDeviceOrFails :
    nextAnswer (releasing [.ok] .enabled) = .ok ∧ nextAnswer (releasing [.err] .enabled) = .err ∧
      (releasing [.err] .enabled).params.releaseFailState = .enabled ∧
      (releasing [.err] .disabled).params.releaseFailState = .disabled ∧
      nextAnswer (releasing [.err] .disabled) = .err := by decide
/-- The three clauses of SET_HIGH and SET_LOW, with the last entry at its boundary. -/
theorem witness_SetHighAndSetLow :
    nextAnswer (sending 19 [.ok]) = .ok ∧ (sending 19 [.ok]).seqIdx + 1 < uopCount (sending 19 [.ok]).uops ∧
      nextAnswer (sending 20 [.ok]) = .ok ∧ uopCount (sending 20 [.ok]).uops ≤ (sending 20 [.ok]).seqIdx + 1 ∧
      nextAnswer (sending 0 [.err]) = .err := by decide
theorem witness_HoldLastsItsDurationPlusSlack :
    (sending 19 []).seqIdx + 1 < uopCount (sending 19 []).uops ∧
      uopCount (sending 20 []).uops ≤ (sending 20 []).seqIdx + 1 ∧
      ({ sending 1 [] with delays := [0] } : State).delays = [0] ∧ 0 ≤ (sending 1 []).params.holdSlackUs := by
  decide
theorem witness_FittingCodeReadsBackWhole :
    bitlen (5#64).toNat ≤ 3 ∧ bitlen (0#64).toNat ≤ 0 ∧ bitlen (0xFFFFFFFFFFFFFFFF#64).toNat ≤ 64 := by
  decide +kernel
/-- One code for each of the three cases: E-04, E-09, E-12, E-13. -/
theorem witness_DigitStringHasThreeCases :
    bitlen (5#64).toNat ≤ 3 ∧ bitlen (5#64).toNat = 2 + 1 ∧ bitlen (63#64).toNat = 4 + 2 ∧
      bitlen (64#64).toNat > 4 + 2 := by decide +kernel
/-- E-18: the last '0', the '1' and the first guard position. -/
def plan18 : SendPlan := { plan5 with proto := 5, code := 16777217, llen := 24, txlen := 32 }
theorem witness_BitIsSentAsTablePair :
    22 < plan18.llen.toNat ∧ plan18.code.getLsbD (plan18.llen.toNat - 1 - 22) = false ∧
      23 < plan18.llen.toNat ∧ plan18.code.getLsbD (plan18.llen.toNat - 1 - 23) = true ∧
      plan18.llen.toNat ≤ 24 := by decide
/-- R100 row 5 at those positions. -/
theorem test_E18_pairs : [22, 23, 24].map (pairOf plan18) = [(1, 5), (1, 1), (1, 1)] := by decide
/-- A SEND that widens: the state is good, no reset comes, and the step goes on with another bit length. -/
def widening : State :=
  { enabledDevice 0 1 1 24 [] with codeLo := 16777217, inputs := [.bus (.write 4 0 2)] }
theorem witness_DeviceRegistersChangeOnlyByInitOrWidening :
    GoodState widening ∧ widening.inputs.head? ≠ some .rst ∧ widening.curCmd ≠ .init ∧
      (nextValue (step widening) (·.devBitlen)) = some 32 ∧ widening.devBitlen = 24 ∧
      ∃ t, step widening = .next t :=
  ⟨by constructor <;> decide, by decide, by decide, by decide, by decide, ⟨_, rfl⟩⟩
theorem witness_HoldDurationIsExactProduct : ReferenceHardware (sending 0 []) := by
  unfold ReferenceHardware; decide
theorem witness_SendOnReferenceHardwareSendsItsFrames :
    ReferenceHardware (sending 0 (List.replicate 10 .ok)) ∧ (sending 0 (List.replicate 10 .ok)).busy = true ∧ (sending 0 (List.replicate 10 .ok)).curCmd = .send ∧
      (sending 0 (List.replicate 10 .ok)).uops = .send plan5 ∧ (sending 0 (List.replicate 10 .ok)).seqIdx = 0 ∧
      (sending 0 (List.replicate 10 .ok)).inputs = [] ∧ plan5.repeats ≠ 0#32 ∧
      2 * plan5.repeats.toNat * (plan5.txlen.toNat + 1) ≤ (sending 0 (List.replicate 10 .ok)).answers.length ∧
      (∀ a ∈ (sending 0 (List.replicate 10 .ok)).answers, a = .ok) := by
  unfold ReferenceHardware; decide
theorem witness_InitThenTurnConstructsDevice :
    ({ reference [.ok] with argProto := 6, inputs := [.bus (.write 4 0 1), .tick] } : State).inputs
        = .bus (.write 4#8 0#32 1#32) :: .tick :: [] ∧
      nextAnswer { reference [.ok] with argProto := 6, inputs := [.bus (.write 4 0 1), .tick] } = .ok ∧
      (reference [.ok]).lifecycle ≠ .enabled ∧ (reference [.ok]).lineOwned = false ∧
      (reference [.ok]).busy = false := by decide
theorem witness_SecondCleanupIsDoubleTeardown :
    ({ enabledDevice 0 1 1 1 [.ok] with
        inputs := [.bus (.write 4 0 3), .tick, .bus (.write 4 0 3)] } : State).inputs
        = .bus (.write 4#8 0#32 3#32) :: .tick :: .bus (.write 4#8 0#32 3#32) :: [] ∧
      nextAnswer { enabledDevice 0 1 1 1 [.ok] with
        inputs := [.bus (.write 4 0 3), .tick, .bus (.write 4 0 3)] } = .ok ∧
      (enabledDevice 0 1 1 1 [.ok]).busy = false ∧ (enabledDevice 0 1 1 1 [.ok]).lifecycle = .enabled := by decide
/-- The same state with the ACQUIRE of its INIT in the trace. -/
def traced : State := { sending 0 [.ok] with trace := [{ time := 0, op := .acquire, res := .ok }] }
theorem witness_EveryStepKeepsInvariants : GoodState (sending 0 [.ok]) ∧ ∃ t, step (sending 0 [.ok]) = .next t :=
  ⟨goodState_sending, ⟨_, rfl⟩⟩
theorem witness_GoodStateNeverStops : GoodState (sending 20 []) := goodState_last_entry
theorem witness_EveryStepKeepsLineOfTrace : LineMatchesTrace traced ∧ ∃ t, step traced = .next t :=
  ⟨by unfold LineMatchesTrace; decide, ⟨_, rfl⟩⟩
theorem witness_EveryStepKeepsTraceOrdered : TraceOrdered traced ∧ ∃ t, step traced = .next t :=
  ⟨by unfold TraceOrdered; decide, ⟨_, rfl⟩⟩
theorem witness_NoStepChangesParameters : ∃ t, step traced = .next t := ⟨_, rfl⟩
/-- The three ways an operation is issued, and a step with none. -/
theorem witness_EachStepIssuesAtMostOneDriverOperation :
    GoodState (sending 0 [.ok]) ∧ (sending 0 [.ok]).inputs.head? ≠ some .rst ∧
      nextValue (step (sending 0 [.ok])) (·.drvCount) = some 1 ∧
      nextValue (step (acquiring [.ok])) (·.drvCount) = some 1 ∧
      nextValue (step (releasing [.ok] .disabled)) (·.drvCount) = some 1 ∧
      nextValue (step (sending 20 [])) (·.drvCount) = some 0 := ⟨goodState_sending, by decide⟩
theorem witness_RunningCommandIgnoresArgumentWrites :
    (sending 0 [.ok]).busy = true ∧ ∃ t, sequencerTurn (sending 0 [.ok]) = .next t := ⟨rfl, ⟨_, rfl⟩⟩
/-- A device that is torn down, one that is constructed, and one that stays. -/
theorem witness_LifecycleLeavesEnabledOnlyByCleanup :
    GoodState (releasing [.ok] .disabled) ∧ GoodState (acquiring [.ok]) ∧
      (releasing [.ok] .disabled).inputs.head? ≠ some .rst ∧ (releasing [.ok] .disabled).lifecycle = .enabled ∧
      nextValue (step (releasing [.ok] .disabled)) (·.lifecycle) = some .disabled ∧
      (acquiring [.ok]).lifecycle ≠ .enabled ∧
      nextValue (step (acquiring [.ok])) (·.lifecycle) = some .enabled ∧
      (sending 0 [.ok]).lifecycle ≠ .none := ⟨goodState_releasing, goodState_acquiring, by decide⟩
/-- A SEND that goes on, that ends, and that aborts. -/
theorem witness_RunningSendEndsOnlyByListOrError :
    GoodState (sending 0 [.ok]) ∧ (sending 0 [.ok]).inputs.head? ≠ some .rst ∧ (sending 0 [.ok]).curCmd = .send ∧ nextValue (step (sending 0 [.ok])) (·.seqIdx) = some 1 ∧
      nextValue (step (sending 20 [])) (·.result) = some .ok ∧
      nextValue (step (sending 0 [.err])) (·.result) = some .errIo := ⟨goodState_sending, by decide⟩

end Sys2Proof.Tests
end

section
/-! PROOF. The invariants of the state (10_state.md section 7) and what changes the device's registers. -/

namespace Sys2Proof.Machine

/-! ### The words STATUS and LINE -/

/-- The fields of STATUS at the bit places of 10_state.md R22, with the encodings still as bit vectors. -/
theorem statusWord_toNat (s : State) :
    (statusWord s).toNat =
      (lifecycleCode s.lifecycle).toNat + 4 * s.busy.toNat + 8 * s.reject.toNat
        + 16 * (resultNumber s.result).toNat := by
  have hstate := (lifecycleCode s.lifecycle).isLt
  have hbusy := s.busy.toNat_lt
  have hreject := s.reject.toNat_lt
  simp only [statusWord, BitVec.toNat_append, BitVec.toNat_ofBool, BitVec.toNat_ofNat]
  rw [← Nat.shiftLeft_add_eq_or_of_lt hstate, ← Nat.shiftLeft_add_eq_or_of_lt (by omega),
    ← Nat.shiftLeft_add_eq_or_of_lt (by omega)]
  simp [Nat.shiftLeft_eq]
  omega

/-- LINE at the bit places of 10_state.md R34. -/
theorem lineWord_toNat (s : State) : (lineWord s).toNat = s.lineLevel.toNat + 2 * s.lineOwned.toNat := by
  have hlevel := s.lineLevel.toNat_lt
  simp only [lineWord, BitVec.toNat_append, BitVec.toNat_ofBool]
  rw [← Nat.shiftLeft_add_eq_or_of_lt (by omega)]
  simp [Nat.shiftLeft_eq]
  omega

/-- Settles O12: the packing is `statusWord_toNat` and `lineWord_toNat`, the numbers are the two encodings. -/
theorem statusAndLineWordsPackTheirFields : Obligations.StatusAndLineWordsPackTheirFields := by
  intro s
  refine ⟨?_, lineWord_toNat s⟩
  rw [statusWord_toNat]
  congr 1
  · congr 2
    cases s.lifecycle <;> rfl
  · congr 1
    cases s.result <;> rfl

/-! ### What the invariants read -/

/-- The part of the state that GoodState reads, every other field at its reset value. -/
def invariantView (s : State) : State :=
  { State.reset with
    lifecycle := s.lifecycle, busy := s.busy, devProto := s.devProto, devRepeat := s.devRepeat
    devPulse := s.devPulse, devBitlen := s.devBitlen, lineOwned := s.lineOwned, curCmd := s.curCmd
    lcode := s.lcode, llen := s.llen, txlen := s.txlen, uops := s.uops, seqIdx := s.seqIdx
    timer := s.timer, params := s.params }

theorem goodState_invariantView {s : State} : GoodState (invariantView s) ↔ GoodState s :=
  ⟨fun h => { h with }, fun h => { h with }⟩

/-- What leaves the view alone keeps the invariants. -/
theorem GoodState.of_view {s t : State} (hs : GoodState s) (hview : invariantView t = invariantView s) :
    GoodState t :=
  goodState_invariantView.1 (hview ▸ goodState_invariantView.2 hs)

theorem GoodState.after_withInputs {s : State} (hs : GoodState s) (inputs : List Input) :
    GoodState { s with inputs := inputs } := hs.of_view rfl

/-- A driver operation's latency, answer and event are no matter of the invariants; what it does to LINE is. -/
theorem GoodState.after_answered {s : State} (hs : GoodState s) (op : DrvOp) (res : Answer) (lat : Nat) :
    GoodState (answered op res lat s) := hs.of_view rfl

@[simp] theorem driveLine_curCmd (op : DrvOp) (s : State) : (driveLine op s).curCmd = s.curCmd := by
  cases op <;> rfl

/-- A SET changes the level of the line, which no invariant reads. -/
theorem invariantView_driveLine {op : DrvOp} (hop : op = .setLow ∨ op = .setHigh) (s : State) :
    invariantView (driveLine op s) = invariantView s := by
  obtain rfl | rfl := hop <;> rfl

/-- A store reaches the argument and code registers only, which no invariant reads. -/
theorem invariantView_memWrite (off : Nat) (v : Word) (s : State) :
    invariantView (memWrite off v s) = invariantView s := by
  obtain e | e | e | e | e | e | e := memWrite_cases off v s <;> rw [e] <;> rfl

/-- The clauses of GoodState that speak of the device, the line and the timer and of no command: R39 (a), (d)
and the idle timer. -/
structure DeviceInvariants (s : State) : Prop where
  enabledOwnsLine : s.lifecycle = .enabled → s.lineOwned = true
  ownedElsewhere : s.lineOwned = true → s.lifecycle ≠ .enabled →
    s.lifecycle = .disabled ∧ s.params.releaseFailState = .disabled
  noDeviceIsZero : s.lifecycle = .none →
    s.devProto = 0 ∧ s.devRepeat = 0#32 ∧ s.devPulse = 0#32 ∧ s.devBitlen = 0#32
  timerIdle : s.timer = 0#41

theorem GoodState.device {s : State} (hs : GoodState s) : DeviceInvariants s := { hs with }

/-- An enabled device that owns the line needs no clause but the idle timer. -/
theorem deviceInvariants_of_enabled {s : State} (hl : s.lifecycle = .enabled) (ho : s.lineOwned = true)
    (ht : s.timer = 0#41) : DeviceInvariants s where
  enabledOwnsLine _ := ho
  ownedElsewhere _ hne := absurd hl hne
  noDeviceIsZero hn := absurd (hl.symm.trans hn) (by decide)
  timerIdle := ht

/-- A command that ends leaves the sequencer's clauses with nothing to say (60_exceptions.md R200). -/
theorem DeviceInvariants.goodState_idleWith {s : State} (hd : DeviceInvariants s) (code : ResultCode) :
    GoodState (idleWith code s) where
  enabledOwnsLine := hd.enabledOwnsLine
  ownedElsewhere := hd.ownedElsewhere
  busyHasCommand := nofun
  idleIsClear _ := ⟨rfl, rfl, rfl⟩
  noDeviceIsZero := hd.noDeviceIsZero
  timerIdle := hd.timerIdle
  initAcquires := nofun
  sendTransmits := nofun
  cleanupReleases := nofun

theorem GoodState.after_idleWith {s : State} (hs : GoodState s) (code : ResultCode) :
    GoodState (idleWith code s) := hs.device.goodState_idleWith code

/-- A started command is good when its list is its own and the device fits it (43_device_commands.md R165, R168,
R174). -/
theorem DeviceInvariants.goodState_startSequence {s : State} (hd : DeviceInvariants s) {cmd : CurCmd}
    {ops : UopList} (hcmd : cmd ≠ .none)
    (hinit : cmd = .init →
      ops = .words [encodeMicroOp (.drv .acquire)] ∧ s.lifecycle ≠ .enabled ∧ s.lineOwned = false)
    (hsend : cmd = .send →
      ops = .send (sendPlanOf s) ∧ 0 < sendLen (sendPlanOf s) ∧
        s.lifecycle = .enabled ∧ s.txlen = s.devBitlen)
    (hcleanup : cmd = .cleanup →
      ops = .words [encodeMicroOp (.drv .release)] ∧ s.lifecycle = .enabled) :
    GoodState (startSequence cmd ops s) where
  enabledOwnsLine := hd.enabledOwnsLine
  ownedElsewhere := hd.ownedElsewhere
  busyHasCommand _ := hcmd
  idleIsClear := nofun
  noDeviceIsZero := hd.noDeviceIsZero
  timerIdle := hd.timerIdle
  initAcquires hc := ⟨(hinit hc).1, rfl, (hinit hc).2⟩
  sendTransmits := hsend
  cleanupReleases hc := ⟨(hcleanup hc).1, rfl, (hcleanup hc).2⟩

/-! ### Reset -/

/-- RST leaves an idle block with no device, whatever the parameters and the environment, which it keeps, are
(70_reset_and_hazards.md R230, log 12). -/
theorem goodState_applyReset (s : State) : GoodState (applyReset s) :=
  have hd : DeviceInvariants (applyReset s) :=
    { enabledOwnsLine := nofun
      ownedElsewhere := nofun
      noDeviceIsZero := fun _ => ⟨rfl, rfl, rfl, rfl⟩
      timerIdle := rfl }
  hd.goodState_idleWith .ok

/-- Settles O2: the reset state is what RST makes of it, its trace is empty and its line low and not owned. -/
theorem resetMeetsInvariants : Obligations.ResetMeetsInvariants :=
  ⟨goodState_applyReset State.reset, rfl, List.Pairwise.nil, nofun⟩

/-! ### The start of a command -/

/-- The four ways a command starts (43_device_commands.md R162). -/
def IsCommandStart (start : State → State) : Prop :=
  start = startInit ∨ start = startSend ∨ start = startCleanup ∨ start = startIllegal

/-- What ENCODE leaves of a state whose code operand is latched (41_bit_encoder.md R116). -/
def encodedSend (s : State) : State := encodeStep { s with lcode := codeOperand s }

/-- StartInit ends at once or latches its operands and starts the one ACQUIRE (43_device_commands.md R165 to
R167). -/
theorem startInit_cases (s : State) :
    (∃ code, startInit s = idleWith code s) ∨
    (s.lifecycle ≠ .enabled ∧ s.lineOwned = false ∧ ∃ idx,
      startInit s = startSequence .init (.words [encodeMicroOp (.drv .acquire)]) (latchInit idx s)) := by
  unfold startInit
  split
  · exact .inl ⟨_, finish_eq _ s⟩
  · rename_i hfree
    rw [not_or, Bool.not_eq_true] at hfree
    split
    · exact .inl ⟨_, finish_eq _ s⟩
    · exact .inr ⟨hfree.1, hfree.2, _, rfl⟩

/-- StartSend is refused, ends at once with an empty list, or starts its list (43_device_commands.md R168 to
R170). -/
theorem startSend_cases (s : State) :
    startSend s = idleWith .errNotInit s ∨
    (s.lifecycle = .enabled ∧ startSend s = idleWith .ok (encodedSend s)) ∨
    (s.lifecycle = .enabled ∧ 0 < sendLen (sendPlanOf (encodedSend s)) ∧
      startSend s = startSequence .send (.send (sendPlanOf (encodedSend s))) (encodedSend s)) := by
  unfold startSend
  split
  · exact .inl (finish_eq _ s)
  · rename_i henabled
    have hl : s.lifecycle = .enabled := Decidable.not_not.1 henabled
    dsimp only
    split
    · exact .inr (.inl ⟨hl, rfl⟩)
    · rename_i hlen
      exact .inr (.inr ⟨hl, Nat.pos_of_ne_zero hlen, rfl⟩)

/-- StartCleanup ends at once or starts the one RELEASE (43_device_commands.md R174, R177). -/
theorem startCleanup_cases (s : State) :
    (∃ code, startCleanup s = idleWith code s) ∨
    (s.lifecycle = .enabled ∧
      startCleanup s = startSequence .cleanup (.words [encodeMicroOp (.drv .release)]) s) := by
  unfold startCleanup
  split
  · exact .inl ⟨_, finish_eq _ s⟩
  · exact .inl ⟨_, finish_eq _ s⟩
  · rename_i hl
    exact .inr ⟨hl, rfl⟩

/-- The start of a command keeps the invariants, whether it ends there or goes on. -/
theorem GoodState.after_start {s : State} (hs : GoodState s) {start : State → State}
    (hstart : IsCommandStart start) : GoodState (start s) := by
  obtain rfl | rfl | rfl | rfl := hstart
  · obtain ⟨code, e⟩ | ⟨hl, ho, idx, e⟩ := startInit_cases s <;> rw [e]
    · exact hs.after_idleWith code
    · have hlatched : GoodState (latchInit idx s) := hs.of_view rfl
      exact hlatched.device.goodState_startSequence nofun (fun _ => ⟨rfl, hl, ho⟩) nofun nofun
  · have hencoded (hl : s.lifecycle = .enabled) : DeviceInvariants (encodedSend s) :=
      deviceInvariants_of_enabled hl (hs.enabledOwnsLine hl) hs.timerIdle
    obtain e | ⟨hl, e⟩ | ⟨hl, hlen, e⟩ := startSend_cases s <;> rw [e]
    · exact hs.after_idleWith _
    · exact (hencoded hl).goodState_idleWith _
    · exact (hencoded hl).goodState_startSequence nofun nofun (fun _ => ⟨rfl, hlen, hl, rfl⟩) nofun
  · obtain ⟨code, e⟩ | ⟨hl, e⟩ := startCleanup_cases s <;> rw [e]
    · exact hs.after_idleWith code
    · exact hs.device.goodState_startSequence nofun nofun nofun (fun _ => ⟨rfl, hl⟩)
  · exact hs.after_idleWith _

/-- A command issued while BUSY changes REJECT only, which no invariant reads (43_device_commands.md R163). -/
theorem GoodState.after_issueCommand {s : State} (hs : GoodState s) {start : State → State}
    (hstart : IsCommandStart start) : GoodState (issueCommand start s) := by
  cases hb : s.busy with
  | true =>
    rw [issueCommand_busy start hb]
    exact hs.of_view rfl
  | false =>
    rw [issueCommand_idle start hb]
    have hcleared : GoodState { s with reject := false } := hs.of_view rfl
    exact hcleared.after_start hstart

/-- Every host access keeps the invariants. -/
theorem GoodState.after_busCycle {s t : State} (hs : GoodState s) {c : BusCycle}
    (h : exec c.toInstr s = .next t) : GoodState t := by
  obtain ⟨off, rfl⟩ | ⟨v, rfl⟩ | ⟨off, v, rfl⟩ | ⟨start, hstart, rfl⟩ := exec_busCycle_cases h
  · exact hs.of_view rfl
  · exact hs.of_view rfl
  · exact hs.of_view (invariantView_memWrite off v s)
  · exact (hs.after_issueCommand hstart).of_view rfl

/-! ### The sequencer's turn -/

theorem GoodState.busy_of_command {s : State} (hs : GoodState s) (hc : s.curCmd ≠ .none) : s.busy = true := by
  cases hb : s.busy with
  | true => rfl
  | false => exact absurd (hs.idleIsClear hb).1 hc

/-- A busy block performs the micro-operation whose word is at SEQ_IDX. -/
theorem sequencerTurn_of_uopAt {s : State} {m : MicroOp} (hb : s.busy = true)
    (hw : uopAt s.uops s.seqIdx = some (encodeMicroOp m)) : sequencerTurn s = exec m.toInstr s := by
  simp [sequencerTurn, hb, hw]

theorem GoodState.sequencerTurn_init {s : State} (hs : GoodState s) (hc : s.curCmd = .init) :
    sequencerTurn s = .next (endInit s) := by
  obtain ⟨huops, hidx, -, -⟩ := hs.initAcquires hc
  have hw : uopAt s.uops s.seqIdx = some (encodeMicroOp (.drv .acquire)) := by rw [huops, hidx]; rfl
  exact sequencerTurn_of_uopAt (hs.busy_of_command (by simp [hc])) hw

theorem GoodState.sequencerTurn_cleanup {s : State} (hs : GoodState s) (hc : s.curCmd = .cleanup) :
    sequencerTurn s = .next (endCleanup s) := by
  obtain ⟨huops, hidx, -⟩ := hs.cleanupReleases hc
  have hw : uopAt s.uops s.seqIdx = some (encodeMicroOp (.drv .release)) := by rw [huops, hidx]; rfl
  exact sequencerTurn_of_uopAt (hs.busy_of_command (by simp [hc])) hw

theorem GoodState.sequencerTurn_send {s : State} (hs : GoodState s) (hc : s.curCmd = .send) :
    sequencerTurn s = exec (sendEntry (sendPlanOf s) s.seqIdx).toInstr s := by
  obtain ⟨huops, hidx, -, -⟩ := hs.sendTransmits hc
  have hw : uopAt s.uops s.seqIdx = some (encodeMicroOp (sendEntry (sendPlanOf s) s.seqIdx)) := by
    rw [huops]; exact if_pos hidx
  exact sequencerTurn_of_uopAt (hs.busy_of_command (by simp [hc])) hw

/-- A waveform has SETs and holds only (42_waveform_transmitter.md R133). -/
theorem waveformPhase_cases (pair : BitVec 8 × BitVec 8) (pulse : Word) (phase : Nat) :
    (∃ op, (op = .setLow ∨ op = .setHigh) ∧ waveformPhase pair pulse phase = .drv op) ∨
    ∃ d, waveformPhase pair pulse phase = .hold d := by
  unfold waveformPhase
  split
  · exact .inl ⟨_, .inr rfl, rfl⟩
  split
  · exact .inr ⟨_, rfl⟩
  split
  · exact .inl ⟨_, .inl rfl, rfl⟩
  · exact .inr ⟨_, rfl⟩

/-- The list of a SEND has SETs and holds only (44_gpio_output.md R192). -/
theorem sendEntry_cases (p : SendPlan) (k : Nat) :
    (∃ op, (op = .setLow ∨ op = .setHigh) ∧ sendEntry p k = .drv op) ∨ ∃ d, sendEntry p k = .hold d := by
  unfold sendEntry
  dsimp only
  split
  · exact waveformPhase_cases ..
  split
  · exact waveformPhase_cases ..
  · exact .inr ⟨_, rfl⟩

/-- The sequencer's turn by the running command: nothing while idle, the ACQUIRE of an INIT, the RELEASE of a
CLEANUP, a SET or a hold of a SEND. -/
theorem GoodState.sequencerTurn_cases {s t : State} (hs : GoodState s) (h : sequencerTurn s = .next t) :
    (s.busy = false ∧ t = s) ∨
    (s.curCmd = .init ∧ t = endInit s) ∨
    (s.curCmd = .cleanup ∧ t = endCleanup s) ∨
    (s.curCmd = .send ∧ ∃ op, (op = .setLow ∨ op = .setHigh) ∧ t = transmitSet op s) ∨
    (s.curCmd = .send ∧ ∃ d, t = seqAdvance (holdFully d s)) := by
  cases hc : s.curCmd with
  | none =>
    have hb : s.busy = false := Bool.eq_false_iff.2 fun hb => hs.busyHasCommand hb hc
    simp only [sequencerTurn, hb, Bool.false_eq_true, if_false] at h
    cases h
    exact .inl ⟨hb, rfl⟩
  | init =>
    rw [hs.sequencerTurn_init hc] at h
    cases h
    exact .inr (.inl ⟨rfl, rfl⟩)
  | cleanup =>
    rw [hs.sequencerTurn_cleanup hc] at h
    cases h
    exact .inr (.inr (.inl ⟨rfl, rfl⟩))
  | send =>
    rw [hs.sequencerTurn_send hc] at h
    obtain ⟨op, hop, e⟩ | ⟨d, e⟩ := sendEntry_cases (sendPlanOf s) s.seqIdx <;> rw [e] at h
    · refine .inr (.inr (.inr (.inl ⟨rfl, op, hop, ?_⟩)))
      obtain rfl | rfl := hop <;> cases h <;> rfl
    · cases h
      exact .inr (.inr (.inr (.inr ⟨rfl, d, rfl⟩)))

/-- SEQ_IDX stays inside a running SEND's list, or the SEND ends (42_waveform_transmitter.md R142). -/
theorem GoodState.after_seqAdvance {s : State} (hs : GoodState s) (hc : s.curCmd = .send) :
    GoodState (seqAdvance s) := by
  obtain ⟨huops, -, hl, htx⟩ := hs.sendTransmits hc
  by_cases hmore : s.seqIdx + 1 < uopCount s.uops
  · rw [seqAdvance_more hmore]
    rw [huops] at hmore
    exact {
      hs with
      idleIsClear := fun hb => absurd ((hs.idleIsClear hb).1.symm.trans hc) (by decide)
      initAcquires := fun hi => absurd (hc.symm.trans hi) (by decide)
      sendTransmits := fun _ => ⟨huops, hmore, hl, htx⟩
      cleanupReleases := fun hi => absurd (hc.symm.trans hi) (by decide) }
  · rw [seqAdvance_last hmore]
    exact hs.after_idleWith .ok

/-- A SET changes the level of the line, which no invariant reads, and goes on or aborts. -/
theorem GoodState.after_transmitSet {s : State} (hs : GoodState s) (hc : s.curCmd = .send) {op : DrvOp}
    (hop : op = .setLow ∨ op = .setHigh) : GoodState (transmitSet op s) := by
  cases ha : nextAnswer s with
  | ok =>
    have hset := (hs.after_answered op .ok (latency s)).of_view (invariantView_driveLine hop _)
    rw [transmitSet_ok op ha]
    exact hset.after_seqAdvance ((driveLine_curCmd op _).trans hc)
  | err =>
    rw [transmitSet_err op ha]
    exact (hs.after_answered op .err (latency s)).after_idleWith .errIo

/-- A hold leaves TIMER at the 0 it had. -/
theorem GoodState.after_holdFully {s : State} (hs : GoodState s) (d : Duration) : GoodState (holdFully d s) :=
  hs.of_view (by simp [holdFully_eq, invariantView, hs.timerIdle])

/-- An INIT ends with an enabled device that owns the line, or with LINE and device as they were
(43_device_commands.md R165). -/
theorem GoodState.after_endInit {s : State} (hs : GoodState s) : GoodState (endInit s) := by
  cases ha : nextAnswer s with
  | ok =>
    rw [endInit_ok ha]
    refine DeviceInvariants.goodState_idleWith ?_ .ok
    exact deviceInvariants_of_enabled rfl rfl hs.timerIdle
  | err =>
    rw [endInit_err ha]
    exact (hs.after_answered .acquire .err (latency s)).after_idleWith .errAcquire

/-- A failed RELEASE keeps the line owned: by the enabled device, or under RELEASE_FAIL_STATE = DISABLED by a
disabled one (10_state.md R39 (a), 43_device_commands.md R176). -/
theorem deviceInvariants_failedRelease {s : State} (ho : s.lineOwned = true) (ht : s.timer = 0#41)
    (hl : s.lifecycle = failedReleaseState s.params.releaseFailState) : DeviceInvariants s := by
  cases hp : s.params.releaseFailState <;> rw [hp] at hl
  case enabled => exact deviceInvariants_of_enabled hl ho ht
  case disabled =>
    exact {
      enabledOwnsLine := fun _ => ho
      ownedElsewhere := fun _ _ => ⟨hl, hp⟩
      noDeviceIsZero := fun hn => absurd (hl.symm.trans hn) (by decide)
      timerIdle := ht }

/-- A CLEANUP gives up the line and disables the device, or fails (43_device_commands.md R174 to R176). -/
theorem GoodState.after_endCleanup {s : State} (hs : GoodState s) (hc : s.curCmd = .cleanup) :
    GoodState (endCleanup s) := by
  obtain ⟨-, -, hl⟩ := hs.cleanupReleases hc
  cases ha : nextAnswer s with
  | ok =>
    rw [endCleanup_ok ha]
    refine DeviceInvariants.goodState_idleWith ?_ .ok
    exact {
      enabledOwnsLine := nofun
      ownedElsewhere := nofun
      noDeviceIsZero := nofun
      timerIdle := hs.timerIdle }
  | err =>
    rw [endCleanup_err ha]
    refine DeviceInvariants.goodState_idleWith ?_ .errRelease
    exact deviceInvariants_failedRelease (hs.enabledOwnsLine hl) hs.timerIdle rfl

/-- The sequencer's turn keeps the invariants. -/
theorem GoodState.after_sequencerTurn {s t : State} (hs : GoodState s) (h : sequencerTurn s = .next t) :
    GoodState t := by
  obtain ⟨-, rfl⟩ | ⟨-, rfl⟩ | ⟨hc, rfl⟩ | ⟨hc, op, hop, rfl⟩ | ⟨hc, d, rfl⟩ := hs.sequencerTurn_cases h
  · exact hs
  · exact hs.after_endInit
  · exact hs.after_endCleanup hc
  · exact hs.after_transmitSet hc hop
  · exact (hs.after_holdFully d).after_seqAdvance hc

/-- Settles O43: a step is a reset, a host access or the sequencer's turn, and each keeps the invariants. -/
theorem everyStepKeepsInvariants : Obligations.EveryStepKeepsInvariants := by
  intro s t hs h
  obtain ⟨rest, -, rfl⟩ | ⟨c, rest, -, hexec⟩ | ⟨-, hturn⟩ := step_cases h
  · exact goodState_applyReset _
  · exact (hs.after_withInputs rest).after_busCycle hexec
  · exact (hs.after_withInputs s.inputs.tail).after_sequencerTurn hturn

/-! ### What changes the device's registers -/

/-- DEV_PROTO, DEV_REPEAT, DEV_PULSE and DEV_BITLEN (10_state.md R31). -/
def deviceRegs (s : State) : Fin 6 × Word × Word × Word :=
  (s.devProto, s.devRepeat, s.devPulse, s.devBitlen)

theorem deviceRegs_of_view {s t : State} (hview : invariantView t = invariantView s) :
    deviceRegs t = deviceRegs s :=
  show deviceRegs (invariantView t) = deviceRegs (invariantView s) from congrArg deviceRegs hview

theorem deviceRegs_seqAdvance (s : State) : deviceRegs (seqAdvance s) = deviceRegs s := by
  by_cases hmore : s.seqIdx + 1 < uopCount s.uops
  · rw [seqAdvance_more hmore]; rfl
  · rw [seqAdvance_last hmore]; rfl

theorem deviceRegs_driveLine (op : DrvOp) (s : State) : deviceRegs (driveLine op s) = deviceRegs s := by
  cases op <;> rfl

theorem deviceRegs_transmitSet (op : DrvOp) (s : State) : deviceRegs (transmitSet op s) = deviceRegs s := by
  cases ha : nextAnswer s with
  | ok => rw [transmitSet_ok op ha, deviceRegs_seqAdvance, deviceRegs_driveLine]; rfl
  | err => rw [transmitSet_err op ha]; rfl

theorem deviceRegs_endCleanup (s : State) : deviceRegs (endCleanup s) = deviceRegs s := by
  cases ha : nextAnswer s with
  | ok => rw [endCleanup_ok ha]; rfl
  | err => rw [endCleanup_err ha]; rfl

/-- The sequencer's turn gives the device's registers other values only at the ACQUIRE of an INIT. -/
theorem GoodState.deviceRegs_sequencerTurn {s t : State} (hs : GoodState s) (hc : s.curCmd ≠ .init)
    (h : sequencerTurn s = .next t) : deviceRegs t = deviceRegs s := by
  obtain ⟨-, rfl⟩ | ⟨hinit, -⟩ | ⟨-, rfl⟩ | ⟨-, op, -, rfl⟩ | ⟨-, d, rfl⟩ := hs.sequencerTurn_cases h
  · rfl
  · exact absurd hinit hc
  · exact deviceRegs_endCleanup s
  · exact deviceRegs_transmitSet op s
  · exact deviceRegs_seqAdvance _

/-- From `s` to `t` the device's registers stay, but for the widening of DEV_BITLEN to 32 by a SEND of a code
above the threshold on an enabled device (10_state.md R32, 41_bit_encoder.md R114). -/
def DeviceKeptButForWidening (s t : State) : Prop :=
  t.devProto = s.devProto ∧ t.devRepeat = s.devRepeat ∧ t.devPulse = s.devPulse ∧
    (t.devBitlen = s.devBitlen ∨
      (t.devBitlen = 32#32 ∧ t.lcode.toNat > 16777216 ∧ s.lifecycle = .enabled))

theorem deviceKept_of_deviceRegs {s t : State} (h : deviceRegs t = deviceRegs s) :
    DeviceKeptButForWidening s t := by
  simp only [deviceRegs, Prod.mk.injEq] at h
  obtain ⟨hproto, hrepeat, hpulse, hbitlen⟩ := h
  exact ⟨hproto, hrepeat, hpulse, .inl hbitlen⟩

/-- The bit length after the widening step is the old one, or 32 for a code above the threshold. -/
theorem widenedBitlen_cases (code : Code) (bitlen : Word) :
    widenedBitlen code bitlen = bitlen ∨ (widenedBitlen code bitlen = 32#32 ∧ code.toNat > 16777216) := by
  unfold widenedBitlen
  split
  · rename_i hwide
    exact .inr ⟨rfl, of_decide_eq_true hwide⟩
  · exact .inl rfl

theorem deviceKept_encodedSend {s : State} (hl : s.lifecycle = .enabled) :
    DeviceKeptButForWidening s (encodedSend s) := by
  refine ⟨rfl, rfl, rfl, ?_⟩
  obtain hsame | ⟨hwide, hcode⟩ := widenedBitlen_cases (codeOperand s) s.devBitlen
  · exact .inl hsame
  · exact .inr ⟨hwide, hcode, hl⟩

/-- The start of a command widens the bit length at most; INIT writes the device's registers after its ACQUIRE
only. -/
theorem deviceKept_start {start : State → State} (s : State) (hstart : IsCommandStart start) :
    DeviceKeptButForWidening s (start s) := by
  obtain rfl | rfl | rfl | rfl := hstart
  · obtain ⟨code, e⟩ | ⟨-, -, idx, e⟩ := startInit_cases s <;> rw [e] <;> exact deviceKept_of_deviceRegs rfl
  · obtain e | ⟨hl, e⟩ | ⟨hl, -, e⟩ := startSend_cases s <;> rw [e]
    · exact deviceKept_of_deviceRegs rfl
    · exact deviceKept_encodedSend hl
    · exact deviceKept_encodedSend hl
  · obtain ⟨code, e⟩ | ⟨-, e⟩ := startCleanup_cases s <;> rw [e] <;> exact deviceKept_of_deviceRegs rfl
  · exact deviceKept_of_deviceRegs rfl

theorem deviceKept_issueCommand {start : State → State} (s : State) (hstart : IsCommandStart start) :
    DeviceKeptButForWidening s (issueCommand start s) := by
  cases hb : s.busy with
  | true =>
    rw [issueCommand_busy start hb]
    exact deviceKept_of_deviceRegs rfl
  | false =>
    rw [issueCommand_idle start hb]
    exact deviceKept_start { s with reject := false } hstart

theorem deviceKept_busCycle {s t : State} {c : BusCycle} (h : exec c.toInstr s = .next t) :
    DeviceKeptButForWidening s t := by
  obtain ⟨off, rfl⟩ | ⟨v, rfl⟩ | ⟨off, v, rfl⟩ | ⟨start, hstart, rfl⟩ := exec_busCycle_cases h
  · exact deviceKept_of_deviceRegs rfl
  · exact deviceKept_of_deviceRegs rfl
  · exact deviceKept_of_deviceRegs (deviceRegs_of_view (invariantView_memWrite off v s))
  · exact deviceKept_issueCommand s hstart

/-- While no INIT runs, a step that is no reset keeps the device's registers but for a SEND's widening. -/
theorem GoodState.deviceKept_step {s t : State} (hs : GoodState s) (hrst : s.inputs.head? ≠ some .rst)
    (hc : s.curCmd ≠ .init) (h : step s = .next t) : DeviceKeptButForWidening s t := by
  obtain ⟨rest, hin, -⟩ | ⟨c, rest, -, hexec⟩ | ⟨-, hturn⟩ := step_cases h
  · exact absurd (by rw [hin]; rfl) hrst
  · exact deviceKept_busCycle (s := { s with inputs := rest }) hexec
  · exact deviceKept_of_deviceRegs ((hs.after_withInputs s.inputs.tail).deviceRegs_sequencerTurn hc hturn)

/-- Settles O36, by the frame of a step on the device's registers. -/
theorem deviceRegistersChangeOnlyByInitOrWidening :
    Obligations.DeviceRegistersChangeOnlyByInitOrWidening := by
  intro s t hs hrst h
  refine ⟨fun hc => ?_, fun hc hne => ?_⟩
  · obtain ⟨hproto, hrepeat, hpulse, -⟩ := hs.deviceKept_step hrst hc h
    exact ⟨hproto, hrepeat, hpulse⟩
  · obtain ⟨-, -, -, hsame | hwidened⟩ := hs.deviceKept_step hrst hc h
    · exact absurd hsame hne
    · exact hwidened

end Sys2Proof.Machine
end

section
/-! PROOF. Encoding and decoding back (30_encoding.md sections 1, 4 and 5), to bytes and from them (20_memory.md
R56). -/

namespace Sys2Proof

/-! ### An instruction and its encoding -/

/-- ILLEGAL_CMD has a word of its own only where the word is no command's (30_encoding.md R72). -/
theorem decodeCommand_encodeCommand {c : Command} (hwf : wfCommand c = true) :
    decodeCommand (encodeCommand c) = c := by
  cases c with
  | illegal w =>
    simp only [wfCommand, Bool.and_eq_true, bne_iff_ne] at hwf
    obtain ⟨⟨hinit, hsend⟩, hcleanup⟩ := hwf
    simp [encodeCommand, decodeCommand, hinit, hsend, hcleanup]
  | _ => rfl

theorem decode_cmd_encodeCommand {c : Command} (hwf : wfCommand c = true) :
    decode (.cmd (encodeCommand c)) = .ok c.toInstr := by
  rw [decode, decodeCommand_encodeCommand hwf]

/-- The decoder gives every well-formed instruction back, each format by its own round trip. -/
theorem decode_encode {i : Instr} (hwf : i.wf = true) : decode (encode i) = .ok i := by
  cases i with
  | init => exact decode_cmd_encodeCommand (c := .init) hwf
  | send => exact decode_cmd_encodeCommand (c := .send) hwf
  | cleanup => exact decode_cmd_encodeCommand (c := .cleanup) hwf
  | illegalCmd w => exact decode_cmd_encodeCommand (c := .illegal w) hwf
  | hold d => exact decode_uop_encodeMicroOp (.hold d)
  | _ => rfl

/-! ### An encoding and its bytes -/

/-- The number an encoding's bytes hold needs no more bytes than its format has. -/
theorem Encoded.toNat_lt (e : Encoded) : e.toNat < 256 ^ e.format.bytes := by
  cases e with
  | cmd w => exact w.isLt
  | drv op => exact Nat.lt_trans op.isLt (by decide : 2 ^ 2 < 256 ^ 1)
  | uop w => exact Nat.lt_trans w.isLt (by decide : 2 ^ 44 < 256 ^ 6)
  | bus c =>
    cases c with
    | read size off =>
      have hsize := size.isLt
      have hoff := off.isLt
      simp only [Encoded.toNat, Encoded.format, Format.bytes]
      omega
    | write size off data =>
      have hsize := size.isLt
      have hoff := off.isLt
      have hdata := data.isLt
      simp only [Encoded.toNat, Encoded.format, Format.bytes]
      omega

theorem natOfBytes_encodeBytes (e : Encoded) : natOfBytes (encodeBytes e) = e.toNat := by
  rw [encodeBytes, natOfBytes_bytesOfNat, Nat.mod_eq_of_lt e.toNat_lt]

/-- The fields of a bus line: the letter, the size, the offset and the data, each above the one before
(log 13). -/
theorem frameBus_fields {letter : Nat} (hletter : letter < 256) (size : BitVec 8) (off data : BitVec 32) :
    frameBus (letter + 2 ^ 8 * size.toNat + 2 ^ 16 * off.toNat + 2 ^ 48 * data.toNat) =
      if letter = 0x57 then .ok (.write size off data)
      else if letter = 0x52 then if data = 0#32 then .ok (.read size off) else .error .nonzeroPadding
      else .error .notABusCycle := by
  have hsizeLt := size.isLt
  have hoffLt := off.isLt
  have hdataLt := data.isLt
  generalize hn : letter + 2 ^ 8 * size.toNat + 2 ^ 16 * off.toNat + 2 ^ 48 * data.toNat = n
  have hl : n % 256 = letter := by omega
  have hsize : BitVec.ofNat 8 (n / 2 ^ 8) = size := by bv_omega
  have hoff : BitVec.ofNat 32 (n / 2 ^ 16) = off := by bv_omega
  have hdata : BitVec.ofNat 32 (n / 2 ^ 48) = data := by bv_omega
  simp only [frameBus, hl, hsize, hoff, hdata]

/-- A bus line holds its cycle; the data of a read is 0 (log 13). -/
theorem frameBus_toNat (c : BusCycle) : frameBus (Encoded.bus c).toNat = .ok c := by
  cases c with
  | read size off => exact frameBus_fields (letter := 0x52) (by decide) size off 0#32
  | write size off data => exact frameBus_fields (letter := 0x57) (by decide) size off data

/-- The bytes of an encoding hold it, in its own format. -/
theorem frame_encodeBytes (e : Encoded) : frame e.format (encodeBytes e) = .ok e := by
  have hlen : (encodeBytes e).length = e.format.bytes := bytesOfNat_length _ _
  simp only [frame, hlen, ne_eq, not_true_eq_false, if_false, natOfBytes_encodeBytes]
  cases e with
  | cmd w => simp [Encoded.format, Encoded.toNat]
  | drv op =>
    have hop : op.toNat < 4 := op.isLt
    simp [Encoded.format, Encoded.toNat, hop]
  | uop w =>
    have hw : w.toNat < 2 ^ 44 := w.isLt
    simp only [Encoded.format, Encoded.toNat, hw, if_true, BitVec.ofNat_toNat, BitVec.setWidth_eq]
  | bus c => simp only [Encoded.format, frameBus_toNat]

/-- The decoder on an encoding's bytes is the decoder on the encoding. -/
theorem decodeBytes_encodeBytes (e : Encoded) : decodeBytes e.format (encodeBytes e) = decode e := by
  rw [decodeBytes, frame_encodeBytes]

/-- Settles O7: `decode_encode`, and the bytes of an encoding lose nothing of it. -/
theorem decodeOfEncodeIsInstruction : Obligations.DecodeOfEncodeIsInstruction := by
  intro i hwf
  exact ⟨decode_encode hwf, (decodeBytes_encodeBytes (encode i)).trans (decode_encode hwf)⟩

end Sys2Proof
end

section
/-! PROOF. The register window (20_memory.md section 2): what a read gives, what a write stores and leaves, and a
command issued through CMD. -/

namespace Sys2Proof.Machine

/-! ### The places of the registers -/

/-- The registers end at 0x70, four bytes each (20_memory.md R51). -/
theorem regOffset_lt (r : Reg) : regOffset r < 0x70 := by
  cases r with
  | lutW0 i => simp only [regOffset]; omega
  | lutW1 i => simp only [regOffset]; omega
  | _ => decide

theorem regOffset_aligned (r : Reg) : regOffset r % 4 = 0 := by
  cases r with
  | lutW0 i => simp only [regOffset]; omega
  | lutW1 i => simp only [regOffset]; omega
  | _ => decide

/-- A register's offset as the bus carries it. -/
theorem toNat_regOffset (r : Reg) : (BitVec.ofNat 32 (regOffset r)).toNat = regOffset r := by
  have hlt := regOffset_lt r
  rw [BitVec.toNat_ofNat]
  omega

/-! ### Reads of the window -/

theorem memRead_regOffset (s : State) (r : Reg) : memRead s (regOffset r) = readReg s r := by
  simp only [memRead, regAt_eq_some.2 (rfl : regOffset r = regOffset r)]

/-- CMD and the reserved offsets read 0 (20_memory.md R54). -/
theorem memRead_eq_zero {off : Nat} (hoff : off = 0 ∨ 0x34 ≤ off ∧ off ≤ 0x3C ∨ 0x70 ≤ off) (s : State) :
    memRead s off = 0#32 := by
  unfold memRead
  split
  · rename_i r hr
    have hplace : off = regOffset r := regAt_eq_some.1 hr
    cases r with
    | cmd => rfl
    | _ =>
      simp only [regOffset] at hplace
      omega
  · rfl

/-- No register shows the response. -/
theorem memRead_writeDone (s : State) (off : Nat) : memRead (writeDone s) off = memRead s off := rfl

/-! ### Stores to the window -/

theorem memWrite_regOffset (r : Reg) (v : Word) (s : State) : memWrite (regOffset r) v s = storeReg v s r := by
  simp only [memWrite, regAt_eq_some.2 (rfl : regOffset r = regOffset r)]

/-- STATUS, the registers above CODE_HI and the reserved offsets ignore a store (20_memory.md R54). -/
theorem memWrite_ignored {off : Nat} (hoff : off = 0x04 ∨ 0x20 ≤ off) (v : Word) (s : State) :
    memWrite off v s = s := by
  unfold memWrite
  split
  · rename_i r hr
    have hplace : off = regOffset r := regAt_eq_some.1 hr
    cases r with
    | argProto | argRepeat | argPulse | argBitlen | codeLo | codeHi =>
      simp only [regOffset] at hplace
      omega
    | _ => rfl
  · rfl

/-- A store to one register shows in no other. -/
theorem readReg_storeReg_of_ne {r r' : Reg} (hne : r' ≠ r) (v : Word) (s : State) :
    readReg (storeReg v s r) r' = readReg s r' := by
  cases r' with
  | argProto | argRepeat | argPulse | argBitlen | codeLo | codeHi =>
    cases r <;> simp_all [readReg, storeReg]
  | _ => cases r <;> rfl

theorem memRead_memWrite_of_ne {off off' : Nat} (hne : off' ≠ off) (v : Word) (s : State) :
    memRead (memWrite off v s) off' = memRead s off' := by
  cases hr : regAt off with
  | none => simp only [memWrite, hr]
  | some r =>
    cases hr' : regAt off' with
    | none => simp only [memRead, hr']
    | some r' =>
      obtain rfl := regAt_eq_some.1 hr
      obtain rfl := regAt_eq_some.1 hr'
      rw [memWrite_regOffset, memRead_regOffset, memRead_regOffset]
      exact readReg_storeReg_of_ne (fun e => hne (congrArg regOffset e)) v s

/-- The six argument and code registers read back what was stored (20_memory.md R53). -/
theorem memRead_memWrite_self {off : Nat} (halign : off % 4 = 0) (hlo : 0x08 ≤ off) (hhi : off < 0x20)
    (v : Word) (s : State) : memRead (memWrite off v s) off = v := by
  obtain rfl | rfl | rfl | rfl | rfl | rfl :
      off = 0x08 ∨ off = 0x0C ∨ off = 0x10 ∨ off = 0x14 ∨ off = 0x18 ∨ off = 0x1C := by omega
  all_goals rfl

/-! ### The meanings of RD and WR on the accepted access form -/

theorem accessOk_of_aligned {off : BitVec 32} (halign : off.toNat % 4 = 0) (hlt : off.toNat < 0x100) :
    accessOk 4#8 off = true := accessOk_iff.2 ⟨rfl, halign, hlt⟩

theorem exec_rd_aligned {off : BitVec 32} (halign : off.toNat % 4 = 0) (hlt : off.toNat < 0x100) (s : State) :
    exec (.rd 4#8 off) s = .next (readDone (memRead s off.toNat) s) :=
  if_pos (accessOk_of_aligned halign hlt)

theorem exec_wr_aligned {off : BitVec 32} (halign : off.toNat % 4 = 0) (hlt : off.toNat < 0x100)
    (hcmd : off.toNat ≠ 0) (v : Word) (s : State) :
    exec (.wr 4#8 off v) s = .next (writeDone (memWrite off.toNat v s)) :=
  (if_pos (accessOk_of_aligned halign hlt)).trans (if_neg hcmd)

theorem exec_rd_regOffset (r : Reg) (s : State) :
    exec (.rd 4#8 (BitVec.ofNat 32 (regOffset r))) s = .next (readDone (readReg s r) s) := by
  have halign := regOffset_aligned r
  have hlt := regOffset_lt r
  rw [exec_rd_aligned (by rwa [toNat_regOffset]) (by rw [toNat_regOffset]; omega), toNat_regOffset,
    memRead_regOffset]

theorem exec_wr_regOffset {r : Reg} (hcmd : regOffset r ≠ 0) (v : Word) (s : State) :
    exec (.wr 4#8 (BitVec.ofNat 32 (regOffset r)) v) s = .next (writeDone (storeReg v s r)) := by
  have halign := regOffset_aligned r
  have hlt := regOffset_lt r
  rw [exec_wr_aligned (by rwa [toNat_regOffset]) (by rw [toNat_regOffset]; omega) (by rwa [toNat_regOffset]),
    toNat_regOffset, memWrite_regOffset]

/-- A read of CMD or of a reserved offset gives 0 (20_memory.md R54). -/
theorem exec_rd_zero {off : BitVec 32} (halign : off.toNat % 4 = 0) (hlt : off.toNat < 0x100)
    (hoff : off.toNat = 0 ∨ 0x34 ≤ off.toNat ∧ off.toNat ≤ 0x3C ∨ 0x70 ≤ off.toNat) (s : State) :
    exec (.rd 4#8 off) s = .next { s with resp := .data 0#32 } := by
  rw [exec_rd_aligned halign hlt, memRead_eq_zero hoff]
  rfl

/-- A write to a read-only register or a reserved offset is acknowledged and ignored (20_memory.md R54,
log 6). -/
theorem exec_wr_ignored {off : BitVec 32} (halign : off.toNat % 4 = 0) (hlt : off.toNat < 0x100)
    (hoff : off.toNat = 0x04 ∨ 0x20 ≤ off.toNat) (v : Word) (s : State) :
    exec (.wr 4#8 off v) s = .next { s with resp := .written } := by
  rw [exec_wr_aligned halign hlt (by omega), memWrite_ignored hoff]
  rfl

/-- Settles O11: each register by its own offset, CMD and the reserved offsets by `exec_rd_zero`. -/
theorem readGivesRegisterAndChangesNothing : Obligations.ReadGivesRegisterAndChangesNothing := by
  intro s
  refine ⟨exec_rd_regOffset .cmd s, exec_rd_regOffset .status s, exec_rd_regOffset .argProto s,
    exec_rd_regOffset .argRepeat s, exec_rd_regOffset .argPulse s, exec_rd_regOffset .argBitlen s,
    exec_rd_regOffset .codeLo s, exec_rd_regOffset .codeHi s, exec_rd_regOffset .devProto s,
    exec_rd_regOffset .devRepeat s, exec_rd_regOffset .devPulse s, exec_rd_regOffset .devBitlen s,
    exec_rd_regOffset .line s, ?_, ?_, ?_, fun off halign hlo hhi => ?_⟩
  · exact exec_rd_zero (by decide) (by decide) (by decide) s
  · exact exec_rd_zero (by decide) (by decide) (by decide) s
  · exact exec_rd_zero (by decide) (by decide) (by decide) s
  · exact exec_rd_zero halign hhi (.inr (.inr hlo)) s

/-- Settles O13: the six registers by their offsets, the other offsets by `exec_wr_ignored`. -/
theorem writeStoresOrIsIgnored : Obligations.WriteStoresOrIsIgnored := by
  intro s v
  exact ⟨exec_wr_regOffset (r := .argProto) (by decide) v s,
    exec_wr_regOffset (r := .argRepeat) (by decide) v s,
    exec_wr_regOffset (r := .argPulse) (by decide) v s, exec_wr_regOffset (r := .argBitlen) (by decide) v s,
    exec_wr_regOffset (r := .codeLo) (by decide) v s, exec_wr_regOffset (r := .codeHi) (by decide) v s,
    fun _ halign hlt hoff => exec_wr_ignored halign hlt hoff v s⟩

/-- Settles O16, with `written` for the response of an ignored write. -/
theorem reservedOffsetsReadZeroAndIgnoreWrites : Obligations.ReservedOffsetsReadZeroAndIgnoreWrites := by
  intro s off v halign hlt
  exact ⟨fun hoff => ⟨.written, exec_wr_ignored halign hlt hoff v s, nofun⟩,
    fun hoff => exec_rd_zero halign hlt hoff s⟩

/-- Settles O15: a byte's word is the stored one or one that no store to another offset reaches. -/
theorem storeChangesOnlyItsFourBytes : Obligations.StoreChangesOnlyItsFourBytes := by
  intro s off v halign hlt hcmd
  refine ⟨_, exec_wr_aligned halign hlt hcmd v s, fun a ha => ?_, fun hlo hhi k hk => ?_, fun hoff a => ?_⟩
  · have hother : a - a % 4 ≠ off.toNat := by omega
    rw [windowByte, memRead_writeDone, memRead_memWrite_of_ne hother, windowByte]
  · have hword : off.toNat + k - (off.toNat + k) % 4 = off.toNat := by omega
    have hbyte : (off.toNat + k) % 4 = k := by omega
    rw [windowByte, memRead_writeDone, hword, hbyte, memRead_memWrite_self halign hlo hhi]
  · rw [memWrite_ignored hoff, windowByte, memRead_writeDone, windowByte]

/-! ### A command issued through CMD -/

theorem runCommand_eq_exec (c : Command) (s : State) : runCommand c s = exec c.toInstr s := by
  cases c <;> rfl

theorem exec_wr_cmd (w : Word) (s : State) : exec (.wr 4#8 0#32 w) s = runCommand (decodeCommand w) s := rfl

/-- Settles O4: a write to CMD is the command its word decodes to, and a step performs the cycle that comes
next. -/
theorem writeToCmdRunsDecodedCommand : Obligations.WriteToCmdRunsDecodedCommand := by
  intro s w i hdec
  obtain rfl : (decodeCommand w).toInstr = i := by simpa [decode] using hdec
  have hexec (u : State) : exec (.wr 4#8 0#32 w) u = exec (decodeCommand w).toInstr u := by
    rw [exec_wr_cmd, runCommand_eq_exec]
  refine ⟨hexec s, fun rest hin => ?_⟩
  simp only [step, hin, hostTurn, BusCycle.toInstr, hexec]

end Sys2Proof.Machine
end

section
/-! PROOF. The host's writes to the argument and code registers do not reach a running command (20_memory.md
R63). -/

namespace Sys2Proof.Machine

/-! ### Operations that commute with the host's writes -/

/-- Values for ARG_PROTO, ARG_REPEAT, ARG_PULSE, ARG_BITLEN, CODE_LO and CODE_HI (20_memory.md R51). -/
structure HostValues where
  proto : Word
  repeats : Word
  pulse : Word
  bitlen : Word
  codeLo : Word
  codeHi : Word

/-- The state with the host's values in the six registers it can write. -/
def withHostValues (v : HostValues) (s : State) : State :=
  { s with
    argProto := v.proto, argRepeat := v.repeats, argPulse := v.pulse, argBitlen := v.bitlen
    codeLo := v.codeLo, codeHi := v.codeHi }

/-- `f` neither reads nor changes the six registers. -/
def IgnoresHostValues (f : State → State) : Prop :=
  ∀ v s, f (withHostValues v s) = withHostValues v (f s)

theorem IgnoresHostValues.comp {f g : State → State} (hf : IgnoresHostValues f) (hg : IgnoresHostValues g) :
    IgnoresHostValues (f ∘ g) := fun v s => (congrArg f (hg v s)).trans (hf v (g s))

theorem ignoresHostValues_idleWith (code : ResultCode) : IgnoresHostValues (idleWith code) := fun _ _ => rfl

theorem ignoresHostValues_holdFully (d : Duration) : IgnoresHostValues (holdFully d) := fun _ _ => rfl

theorem ignoresHostValues_driveLine (op : DrvOp) : IgnoresHostValues (driveLine op) := fun _ _ => by
  cases op <;> rfl

theorem ignoresHostValues_seqAdvance : IgnoresHostValues seqAdvance := by
  intro v s
  by_cases hmore : s.seqIdx + 1 < uopCount s.uops
  · rw [seqAdvance_more hmore, seqAdvance_more (s := withHostValues v s) hmore]; rfl
  · rw [seqAdvance_last hmore, seqAdvance_last (s := withHostValues v s) hmore]; rfl

theorem ignoresHostValues_transmitSet (op : DrvOp) : IgnoresHostValues (transmitSet op) := by
  intro v s
  cases ha : nextAnswer s with
  | ok =>
    rw [transmitSet_ok op ha, transmitSet_ok op (s := withHostValues v s) ha]
    have hset := ignoresHostValues_seqAdvance.comp (ignoresHostValues_driveLine op)
    exact hset v (answered op .ok (latency s) s)
  | err =>
    rw [transmitSet_err op ha, transmitSet_err op (s := withHostValues v s) ha]
    rfl

/-- An INIT at its ACQUIRE takes its operands from the latches (43_device_commands.md R165, log 7). -/
theorem ignoresHostValues_endInit : IgnoresHostValues endInit := by
  intro v s
  cases ha : nextAnswer s with
  | ok => rw [endInit_ok ha, endInit_ok (s := withHostValues v s) ha]; rfl
  | err => rw [endInit_err ha, endInit_err (s := withHostValues v s) ha]; rfl

theorem ignoresHostValues_endCleanup : IgnoresHostValues endCleanup := by
  intro v s
  cases ha : nextAnswer s with
  | ok => rw [endCleanup_ok ha, endCleanup_ok (s := withHostValues v s) ha]; rfl
  | err => rw [endCleanup_err ha, endCleanup_err (s := withHostValues v s) ha]; rfl

/-! ### The sequencer's turn -/

/-- The meaning of a micro-operation is a function of the state that ignores the host's values. -/
theorem exec_microOp_eq (m : MicroOp) :
    ∃ f, IgnoresHostValues f ∧ ∀ s, exec m.toInstr s = .next (f s) := by
  cases m with
  | hold d =>
    exact ⟨_, ignoresHostValues_seqAdvance.comp (ignoresHostValues_holdFully d), fun _ => rfl⟩
  | drv op =>
    cases op with
    | setLow => exact ⟨_, ignoresHostValues_transmitSet .setLow, fun _ => rfl⟩
    | setHigh => exact ⟨_, ignoresHostValues_transmitSet .setHigh, fun _ => rfl⟩
    | acquire => exact ⟨_, ignoresHostValues_endInit, fun _ => rfl⟩
    | release => exact ⟨_, ignoresHostValues_endCleanup, fun _ => rfl⟩

/-- A busy block performs the micro-operation its word at SEQ_IDX decodes to. -/
theorem sequencerTurn_of_decoded {s : State} {w : UopWord} {m : MicroOp} (hb : s.busy = true)
    (hw : uopAt s.uops s.seqIdx = some w) (hm : decodeMicroOp w = .ok m) :
    sequencerTurn s = exec m.toInstr s := by
  simp [sequencerTurn, decode, hb, hw, hm]

/-- A SEND with no entry left finishes OK (42_waveform_transmitter.md R142, log 10). -/
theorem sequencerTurn_of_send_done {s : State} (hb : s.busy = true) (hw : uopAt s.uops s.seqIdx = none)
    (hc : s.curCmd = .send) : sequencerTurn s = .next (idleWith .ok s) := by
  simp [sequencerTurn, hb, hw, hc, finish_eq]

/-- The sequencer's turn neither reads nor changes the six registers. -/
theorem sequencerTurn_withHostValues {s t : State} (h : sequencerTurn s = .next t) (v : HostValues) :
    sequencerTurn (withHostValues v s) = .next (withHostValues v t) := by
  obtain ⟨hb, rfl⟩ | ⟨hb, hw, hc, rfl⟩ | ⟨hb, w, m, hw, hm, hexec⟩ := sequencerTurn_cases h
  · simp [sequencerTurn, withHostValues, hb]
  · exact sequencerTurn_of_send_done (s := withHostValues v s) hb hw hc
  · obtain ⟨f, hf, heq⟩ := exec_microOp_eq m
    rw [heq, Host.Outcome.next.injEq] at hexec
    rw [sequencerTurn_of_decoded (s := withHostValues v s) hb hw hm, heq, hf, hexec]

/-- Settles O48, by `sequencerTurn_withHostValues`, which holds while idle too. -/
theorem runningCommandIgnoresArgumentWrites : Obligations.RunningCommandIgnoresArgumentWrites := by
  intro s t a b c d lo hi _ h
  exact sequencerTurn_withHostValues h ⟨a, b, c, d, lo, hi⟩

end Sys2Proof.Machine
end

section
/-! PROOF. Micro-operation words by KIND and DUR, the words of the LUT, and the command words that stand for no
command (30_encoding.md R78, R75, R72). -/

namespace Sys2Proof.Machine

/-! ### Micro-operation words by KIND and DUR -/

theorem toNat_uopKind (w : UopWord) : (uopKind w).toNat = w.toNat / 2 ^ 41 := by
  have hlt := w.isLt
  rw [uopKind, BitVec.extractLsb'_toNat, Nat.shiftRight_eq_div_pow]
  omega

theorem uopDur_eq_ofNat (w : UopWord) : uopDur w = BitVec.ofNat 41 w.toNat := by
  apply BitVec.eq_of_toNat_eq
  rw [uopDur, BitVec.extractLsb'_toNat, Nat.shiftRight_zero, BitVec.toNat_ofNat]

theorem uopDur_eq_zero_iff (w : UopWord) : uopDur w = 0#41 ↔ w.toNat % 2 ^ 41 = 0 := by
  rw [uopDur_eq_ofNat, ← BitVec.toNat_inj, BitVec.toNat_ofNat]
  rfl

/-- KIND 0b101 to 0b111 (log 14). -/
theorem decode_uop_reservedKind {w : UopWord} (hkind : 5 ≤ w.toNat / 2 ^ 41) :
    decode (.uop w) = .rejected .reservedKind := by
  have habove : 0b100#3 < uopKind w := BitVec.lt_def.2 (by rwa [toNat_uopKind])
  have hne : uopKind w ≠ 0b100#3 := (BitVec.ne_of_lt habove).symm
  simp only [decode, decodeMicroOp, if_neg hne, if_pos habove]

/-- A driver KIND with DUR ≠ 0 (log 14). -/
theorem decode_uop_nonzeroDur {w : UopWord} (hkind : w.toNat / 2 ^ 41 < 4) (hdur : w.toNat % 2 ^ 41 ≠ 0) :
    decode (.uop w) = .rejected .nonzeroDur := by
  have hbelow : uopKind w < 0b100#3 := BitVec.lt_def.2 (by rwa [toNat_uopKind])
  have hne : uopKind w ≠ 0b100#3 := BitVec.ne_of_lt hbelow
  have hle : ¬ 0b100#3 < uopKind w := BitVec.lt_asymm hbelow
  have hdur' : uopDur w ≠ 0#41 := mt (uopDur_eq_zero_iff w).1 hdur
  simp only [decode, decodeMicroOp, if_neg hne, if_neg hle, if_neg hdur']

/-- A HOLD word holds all 41 bits of its DUR (log 23). -/
theorem decode_uop_hold {w : UopWord} (hkind : w.toNat / 2 ^ 41 = 4) :
    decode (.uop w) = .ok (.hold (BitVec.ofNat 41 w.toNat)) := by
  have heq : uopKind w = 0b100#3 := BitVec.eq_of_toNat_eq (by rw [toNat_uopKind, hkind]; rfl)
  simp only [decode, decodeMicroOp, if_pos heq, uopDur_eq_ofNat, MicroOp.toInstr]

/-- A word with an operation's DRV_OP as its KIND and nothing else is the one generated for it (R78). -/
theorem eq_encodeMicroOp_drv {w : UopWord} {op : DrvOp} (hkind : w.toNat / 2 ^ 41 = (encodeDrvOp op).toNat)
    (hdur : w.toNat % 2 ^ 41 = 0) : w = encodeMicroOp (.drv op) := by
  have hword : (encodeMicroOp (.drv op)).toNat = (encodeDrvOp op).toNat * 2 ^ 41 := by cases op <;> rfl
  apply BitVec.eq_of_toNat_eq
  omega

theorem decode_uop_drv {w : UopWord} {op : DrvOp} (hkind : w.toNat / 2 ^ 41 = (encodeDrvOp op).toNat)
    (hdur : w.toNat % 2 ^ 41 = 0) : decode (.uop w) = .ok op.toInstr := by
  rw [eq_encodeMicroOp_drv hkind hdur]
  exact decode_uop_encodeMicroOp (.drv op)

/-- Settles O9: the rejected kinds and HOLD by the decoder's branches, a driver kind by its generated word. -/
theorem ungeneratedMicroOpWordsAreRejected : Obligations.UngeneratedMicroOpWordsAreRejected := by
  intro w
  exact ⟨decode_uop_reservedKind, decode_uop_nonzeroDur, decode_uop_hold, decode_uop_drv (op := .setLow),
    decode_uop_drv (op := .setHigh), decode_uop_drv (op := .acquire), decode_uop_drv (op := .release)⟩

/-! ### The LUT words -/

/-- Settles O10: each pair is the offset and the word of a LUT register, and no field of the state is read. -/
theorem lutReadsGiveTableWords : Obligations.LutReadsGiveTableWords := by
  intro s
  simp only [List.forall_mem_cons]
  exact ⟨exec_rd_regOffset (.lutW0 0) s, exec_rd_regOffset (.lutW1 0) s, exec_rd_regOffset (.lutW0 1) s,
    exec_rd_regOffset (.lutW1 1) s, exec_rd_regOffset (.lutW0 2) s, exec_rd_regOffset (.lutW1 2) s,
    exec_rd_regOffset (.lutW0 3) s, exec_rd_regOffset (.lutW1 3) s, exec_rd_regOffset (.lutW0 4) s,
    exec_rd_regOffset (.lutW1 4) s, exec_rd_regOffset (.lutW0 5) s, exec_rd_regOffset (.lutW1 5) s,
    List.forall_mem_nil _⟩

/-! ### Illegal command words -/

theorem exec_illegalCmd (w : Word) (s : State) :
    exec (.illegalCmd w) s = .next (writeDone (issueCommand startIllegal s)) := rfl

/-- R164: finish(ERR_BAD_CMD) at acceptance, with REJECT cleared. -/
theorem exec_illegalCmd_idle (w : Word) {s : State} (hb : s.busy = false) :
    exec (.illegalCmd w) s = .next { endedAtIssue .errBadCmd s with resp := .written } := by
  rw [exec_illegalCmd, issueCommand_idle startIllegal hb]
  rfl

/-- R163: rejected like any other word. -/
theorem exec_illegalCmd_busy (w : Word) {s : State} (hb : s.busy = true) :
    exec (.illegalCmd w) s = .next { s with reject := true, resp := .written } := by
  rw [exec_illegalCmd, issueCommand_busy startIllegal hb]
  rfl

/-- Settles O18: the word is a well-formed ILLEGAL_CMD, so its round trip decodes it, and it ends or is rejected
at its issue. -/
theorem illegalWordEndsInErrBadCmd : Obligations.IllegalWordEndsInErrBadCmd := by
  intro s w hinit hsend hcleanup
  have hwf : wfCommand (.illegal w) = true := by simp [wfCommand, hinit, hsend, hcleanup]
  exact ⟨decode_cmd_encodeCommand hwf, fun hb => ⟨.written, exec_illegalCmd_idle w hb⟩,
    fun hb => ⟨.written, exec_illegalCmd_busy w hb⟩⟩

end Sys2Proof.Machine
end

section
/-! PROOF. The bit encoder (41_bit_encoder.md section 1): the digit string against the source's algorithm, and its
length and value. -/

namespace Sys2Proof.Machine

/-! ### The lengths -/

theorem bitlen_le_iff {v k : Nat} : bitlen v ≤ k ↔ v < 2 ^ k := by
  by_cases hv : v = 0
  · rw [bitlen, if_pos hv, hv]
    exact ⟨fun _ => Nat.two_pow_pos k, fun _ => Nat.zero_le k⟩
  · rw [bitlen, if_neg hv, Nat.succ_le_iff, Nat.log2_lt hv]

/-- The formatted code has no leading zero, but at least one character. -/
theorem length_toDigits_two (v : Nat) : (Nat.toDigits 2 v).length = max (bitlen v) 1 := by
  have hpos : 0 < (Nat.toDigits 2 v).length := Nat.length_toDigits_pos
  have hiff (k : Nat) (hk : 0 < k) : (Nat.toDigits 2 v).length ≤ k ↔ bitlen v ≤ k := by
    rw [Nat.length_toDigits_le_iff Nat.one_lt_two hk, bitlen_le_iff]
  have hle := (hiff (max (bitlen v) 1) (by omega)).2 (by omega)
  have hge := (hiff _ hpos).1 (Nat.le_refl _)
  omega

theorem digitCount_of_le {w B : Nat} (h : w ≤ B + 2) : digitCount w B = B := if_neg (Nat.not_lt.2 h)

theorem digitCount_of_gt {w B : Nat} (h : B + 2 < w) : digitCount w B = w - 2 := if_pos h

/-- R111's first form of the length: the formatted width less the two characters dropped. -/
theorem digitCount_add_two (w B : Nat) : digitCount w B + 2 = max (B + 2) (max w 1) := by
  obtain h | h : w ≤ B + 2 ∨ B + 2 < w := by omega
  · rw [digitCount_of_le h]
    omega
  · rw [digitCount_of_gt h]
    omega

@[simp] theorem length_digitString (code : Code) (len : Nat) : (digitString code len).length = len := by
  rw [digitString, List.length_map, List.length_range]

/-! ### The digit string at its two ends -/

theorem digitString_zero (code : Code) : digitString code 0 = [] := rfl

theorem digitIsOne_succ_succ (code : Code) (n i : Nat) :
    digitIsOne code (n + 1) (i + 1) = digitIsOne code n i := by
  rw [digitIsOne, digitIsOne, Nat.add_sub_cancel, Nat.sub_sub, Nat.add_comm 1]

/-- One character more in front. -/
theorem digitString_succ (code : Code) (n : Nat) :
    digitString code (n + 1) = (if code.getLsbD n then '1' else '0') :: digitString code n := by
  have hfirst : digitIsOne code (n + 1) 0 = code.getLsbD n := rfl
  simp only [digitString, List.range_succ_eq_map, List.map_cons, List.map_map, Function.comp_def,
    digitIsOne_succ_succ, hfirst]

/-- The character at the end is that of the lowest bit; those before it are the digits of the code's half. -/
theorem digitString_succ_last (code : Code) (n : Nat) :
    digitString code (n + 1) = digitString (code >>> 1) n ++ [Nat.digitChar (code.toNat % 2)] := by
  have hlast : Nat.digitChar (code.toNat % 2) = if code.getLsbD 0 then '1' else '0' := by
    have hbit : code.getLsbD 0 = decide (code.toNat % 2 = 1) := Nat.testBit_zero code.toNat
    obtain h | h := Nat.mod_two_eq_zero_or_one code.toNat
    · rw [hbit, h]; rfl
    · rw [hbit, h]; rfl
  induction n with
  | zero => rw [digitString_succ, digitString_zero, digitString_zero, hlast, List.nil_append]
  | succ n ih =>
    rw [digitString_succ code, ih, digitString_succ, BitVec.getLsbD_ushiftRight, Nat.add_comm 1 n,
      List.cons_append]

theorem toNat_half (code : Code) : (code >>> 1).toNat = code.toNat / 2 := by
  rw [BitVec.toNat_ushiftRight, Nat.shiftRight_succ, Nat.shiftRight_zero]

/-! ### The source's algorithm -/

theorem digitString_zero_code (n : Nat) : digitString 0#64 n = List.replicate n '0' := by
  simp only [digitString, digitIsOne, BitVec.getLsbD_zero, Bool.false_eq_true, if_false, List.map_const',
    List.length_range]

/-- R112's formatted string: any width that holds the code pads it to that many bits. -/
theorem padded_toDigits_two (n : Nat) (code : Code) (hfit : code.toNat < 2 ^ (n + 1)) :
    List.replicate (n + 1 - (Nat.toDigits 2 code.toNat).length) '0' ++ Nat.toDigits 2 code.toNat =
      digitString code (n + 1) := by
  induction n generalizing code with
  | zero =>
    rw [Nat.zero_add, Nat.pow_one] at hfit
    rw [Nat.toDigits_of_lt_base hfit, digitString_succ_last, Nat.mod_eq_of_lt hfit]
    rfl
  | succ n ih =>
    rw [digitString_succ_last]
    obtain hsmall | hbig := Nat.lt_or_ge code.toNat 2
    · have hhalf : code >>> 1 = 0#64 := BitVec.eq_of_toNat_eq (by rw [toNat_half, Nat.div_eq_of_lt hsmall]; rfl)
      rw [hhalf, digitString_zero_code, Nat.toDigits_of_lt_base hsmall, Nat.mod_eq_of_lt hsmall]
      rfl
    · have hhalf := ih (code >>> 1) (by rw [toNat_half]; omega)
      rw [toNat_half] at hhalf
      rw [← hhalf, Nat.toDigits_of_base_le Nat.one_lt_two hbig, List.length_append, List.length_singleton,
        Nat.add_sub_add_right, List.append_assoc]

/-- Settles O33: the formatted string is the digit string two characters longer, and those are dropped. -/
theorem digitStringIsSourceAlgorithm : Obligations.DigitStringIsSourceAlgorithm := by
  intro code B
  have hlen := length_toDigits_two code.toNat
  have hwidth := digitCount_add_two (bitlen code.toNat) B
  have hpad : B + 2 - (Nat.toDigits 2 code.toNat).length =
      digitCount (bitlen code.toNat) B + 2 - (Nat.toDigits 2 code.toNat).length := by omega
  rw [sourceDigits, hpad, padded_toDigits_two _ code (bitlen_le_iff.1 (by omega)), digitString_succ,
    digitString_succ]
  rfl

/-! ### The value -/

/-- The number that a string of characters '0' and '1' reads as, most significant first. -/
def readBinary (digits : List Char) : Nat := digits.foldl (fun n c => 2 * n + if c = '1' then 1 else 0) 0

theorem readBinary_append_digitChar (digits : List Char) (v : Nat) :
    readBinary (digits ++ [Nat.digitChar (v % 2)]) = 2 * readBinary digits + v % 2 := by
  rw [readBinary, List.foldl_append]
  obtain h | h := Nat.mod_two_eq_zero_or_one v
  · rw [h]; rfl
  · rw [h]; rfl

/-- The digit string keeps the low bits and loses those at its length and above (R112). -/
theorem readBinary_digitString (code : Code) (n : Nat) :
    readBinary (digitString code n) = code.toNat % 2 ^ n := by
  induction n generalizing code with
  | zero => rw [digitString_zero, Nat.pow_zero, Nat.mod_one]; rfl
  | succ n ih =>
    rw [digitString_succ_last, readBinary_append_digitChar, ih, toNat_half, Nat.pow_succ', Nat.mod_mul,
      Nat.add_comm]

/-- Settles O35: every case has the length of `digitCount` and the value of `readBinary_digitString`; a code that
fits is its own remainder. -/
theorem digitStringHasThreeCases : Obligations.DigitStringHasThreeCases := by
  intro code B w digits value
  have hlength : digits.length = digitCount w B := length_digitString _ _
  have hvalue : value = code.toNat % 2 ^ digitCount w B := readBinary_digitString _ _
  refine ⟨fun hfits => ?_, fun hlow => ?_, fun hlong => ?_⟩
  · rw [hlength, hvalue, digitCount_of_le (by omega)]
    exact ⟨rfl, Nat.mod_eq_of_lt (bitlen_le_iff.1 hfits)⟩
  · rw [hlength, hvalue, digitCount_of_le (by omega)]
    exact ⟨rfl, rfl⟩
  · rw [hlength, hvalue, digitCount_of_gt hlong]
    exact ⟨rfl, by omega, rfl⟩

end Sys2Proof.Machine
end

section
/-! PROOF. What a step adds to TRACE, and with it to LINE and to model time (42_waveform_transmitter.md section 4,
44_gpio_output.md R191, R193, R194). -/

namespace Sys2Proof.Machine

/-! ### LINE, model time and TRACE -/

/-- LINE as (LEVEL, OWNED), model time and TRACE (10_state.md R34, R38). -/
structure Observed where
  line : Bool × Bool
  time : Nat
  trace : List DrvEvent

def observed (s : State) : Observed :=
  { line := (s.lineLevel, s.lineOwned), time := s.time, trace := s.trace }

/-- Time goes on by `d`. -/
def Observed.pass (d : Nat) (o : Observed) : Observed := { o with time := o.time + d }

/-- A driver operation is answered now: its event, and what the event does to LINE. -/
def Observed.record (op : DrvOp) (res : Answer) (o : Observed) : Observed :=
  { o with
    line := lineAfterEvent o.line { time := o.time, op := op, res := res }
    trace := o.trace ++ [{ time := o.time, op := op, res := res }] }

/-! ### What each operation does to them -/

/-- LINE on an `ok` is what the trace says of the event (44_gpio_output.md R191, R193, R194). -/
theorem observed_driveLine_answered (op : DrvOp) (lat : Nat) (s : State) :
    observed (driveLine op (answered op .ok lat s)) = ((observed s).pass lat).record op .ok := by
  cases op <;> rfl

theorem observed_seqAdvance (s : State) : observed (seqAdvance s) = observed s := by
  by_cases hmore : s.seqIdx + 1 < uopCount s.uops
  · rw [seqAdvance_more hmore]; rfl
  · rw [seqAdvance_last hmore]; rfl

theorem observed_transmitSet (op : DrvOp) (s : State) :
    observed (transmitSet op s) = ((observed s).pass (latency s)).record op (nextAnswer s) := by
  cases ha : nextAnswer s with
  | ok => rw [transmitSet_ok op ha, observed_seqAdvance, observed_driveLine_answered]
  | err => rw [transmitSet_err op ha]; rfl

theorem observed_endInit (s : State) :
    observed (endInit s) = ((observed s).pass (latency s)).record .acquire (nextAnswer s) := by
  cases ha : nextAnswer s with
  | ok => rw [endInit_ok ha]; rfl
  | err => rw [endInit_err ha]; rfl

theorem observed_endCleanup (s : State) :
    observed (endCleanup s) = ((observed s).pass (latency s)).record .release (nextAnswer s) := by
  cases ha : nextAnswer s with
  | ok => rw [endCleanup_ok ha]; rfl
  | err => rw [endCleanup_err ha]; rfl

/-- The start of a command has no event and takes no time. -/
theorem observed_start {start : State → State} (s : State) (hstart : IsCommandStart start) :
    observed (start s) = observed s := by
  obtain rfl | rfl | rfl | rfl := hstart
  · obtain ⟨code, e⟩ | ⟨-, -, idx, e⟩ := startInit_cases s <;> rw [e] <;> rfl
  · obtain e | ⟨-, e⟩ | ⟨-, -, e⟩ := startSend_cases s <;> rw [e] <;> rfl
  · obtain ⟨code, e⟩ | ⟨-, e⟩ := startCleanup_cases s <;> rw [e] <;> rfl
  · rfl

theorem observed_issueCommand {start : State → State} (s : State) (hstart : IsCommandStart start) :
    observed (issueCommand start s) = observed s := by
  cases hb : s.busy with
  | true => rw [issueCommand_busy start hb]; rfl
  | false => rw [issueCommand_idle start hb]; exact observed_start { s with reject := false } hstart

/-- A host access has no event and takes no time (log 19). -/
theorem observed_busCycle {s t : State} {c : BusCycle} (h : exec c.toInstr s = .next t) :
    observed t = observed s := by
  obtain ⟨off, rfl⟩ | ⟨v, rfl⟩ | ⟨off, v, rfl⟩ | ⟨start, hstart, rfl⟩ := exec_busCycle_cases h
  · rfl
  · rfl
  · obtain e | e | e | e | e | e | e := memWrite_cases off v s <;> rw [e] <;> rfl
  · exact observed_issueCommand s hstart

/-- From `o` to `o'` time goes on, and at most one driver operation is answered after that. -/
def ObservedNext (o o' : Observed) : Prop :=
  (∃ d, o' = o.pass d) ∨ ∃ lat op res, o' = (o.pass lat).record op res

theorem ObservedNext.refl (o : Observed) : ObservedNext o o := .inl ⟨0, rfl⟩

theorem observedNext_microOp {m : MicroOp} {s t : State} (h : exec m.toInstr s = .next t) :
    ObservedNext (observed s) (observed t) := by
  obtain ⟨op, -, -, rfl⟩ | ⟨-, rfl⟩ | ⟨-, rfl⟩ | ⟨d, -, rfl⟩ := exec_microOp_cases h
  · exact .inr ⟨_, _, _, observed_transmitSet op s⟩
  · exact .inr ⟨_, _, _, observed_endInit s⟩
  · exact .inr ⟨_, _, _, observed_endCleanup s⟩
  · refine .inl ⟨d.toNat + nextDelay s.params.holdSlackUs s, ?_⟩
    rw [observed_seqAdvance, holdFully_eq, Observed.pass, ← Nat.add_assoc]
    rfl

theorem observedNext_sequencerTurn {s t : State} (h : sequencerTurn s = .next t) :
    ObservedNext (observed s) (observed t) := by
  obtain ⟨-, rfl⟩ | ⟨-, -, -, rfl⟩ | ⟨-, w, m, -, -, hexec⟩ := sequencerTurn_cases h
  · exact .refl _
  · exact .refl _
  · exact observedNext_microOp hexec

/-- A step is a reset, or time goes on and at most one driver operation is answered. -/
theorem observedNext_step {s t : State} (h : step s = .next t) :
    (∃ rest, t = applyReset { s with inputs := rest }) ∨ ObservedNext (observed s) (observed t) := by
  obtain ⟨rest, -, rfl⟩ | ⟨c, rest, -, hexec⟩ | ⟨-, hturn⟩ := step_cases h
  · exact .inl ⟨rest, rfl⟩
  · have hkept : observed t = observed s := observed_busCycle (s := { s with inputs := rest }) hexec
    exact .inr (hkept ▸ .refl _)
  · exact .inr (observedNext_sequencerTurn (s := turnState s) hturn)

/-! ### LINE from TRACE -/

/-- LINE shows what the trace says. -/
def Observed.LineFits (o : Observed) : Prop := o.line = lineAfter o.trace

theorem lineMatchesTrace_iff (s : State) : LineMatchesTrace s ↔ (observed s).LineFits := Iff.rfl

theorem lineAfter_append_event (trace : List DrvEvent) (ev : DrvEvent) :
    lineAfter (trace ++ [ev]) = lineAfterEvent (lineAfter trace) ev := List.foldl_append

theorem Observed.LineFits.next {o o' : Observed} (ho : o.LineFits) (h : ObservedNext o o') : o'.LineFits := by
  obtain ⟨d, rfl⟩ | ⟨lat, op, res, rfl⟩ := h
  · exact ho
  · have hline : o.line = lineAfter o.trace := ho
    simp only [LineFits, record, pass, lineAfter_append_event, hline]

/-- Settles O45: a reset empties TRACE and clears LINE; every other step adds to both alike. -/
theorem everyStepKeepsLineOfTrace : Obligations.EveryStepKeepsLineOfTrace := by
  intro s t hs h
  obtain ⟨rest, rfl⟩ | hnext := observedNext_step h
  · rfl
  · exact (lineMatchesTrace_iff t).2 (((lineMatchesTrace_iff s).1 hs).next hnext)

/-! ### The order of TRACE -/

/-- The events are in order of time, and none is later than now. -/
def Observed.Ordered (o : Observed) : Prop :=
  o.trace.Pairwise (fun a b => a.time ≤ b.time) ∧ ∀ ev ∈ o.trace, ev.time ≤ o.time

theorem traceOrdered_iff (s : State) : TraceOrdered s ↔ (observed s).Ordered := Iff.rfl

theorem Observed.Ordered.pass {o : Observed} (ho : o.Ordered) (d : Nat) : (o.pass d).Ordered :=
  ⟨ho.1, fun ev hev => Nat.le_trans (ho.2 ev hev) (Nat.le_add_right o.time d)⟩

/-- An event stamped with the present time goes behind all that came before. -/
theorem Observed.Ordered.record {o : Observed} (ho : o.Ordered) (op : DrvOp) (res : Answer) :
    (o.record op res).Ordered := by
  obtain ⟨hsorted, hpast⟩ := ho
  refine ⟨List.pairwise_append.2 ⟨hsorted, List.pairwise_singleton .., ?_⟩, List.forall_mem_append.2 ⟨hpast, ?_⟩⟩
  · intro a ha b hb
    rw [List.mem_singleton.1 hb]
    exact hpast a ha
  · intro ev hev
    rw [List.mem_singleton.1 hev]
    exact Nat.le_refl _

theorem Observed.Ordered.next {o o' : Observed} (ho : o.Ordered) (h : ObservedNext o o') : o'.Ordered := by
  obtain ⟨d, rfl⟩ | ⟨lat, op, res, rfl⟩ := h
  · exact ho.pass d
  · exact (ho.pass lat).record op res

theorem ObservedNext.time_le {o o' : Observed} (h : ObservedNext o o') : o.time ≤ o'.time := by
  obtain ⟨d, rfl⟩ | ⟨lat, op, res, rfl⟩ := h
  · exact Nat.le_add_right o.time d
  · exact Nat.le_add_right o.time lat

/-- Settles O46: a reset empties TRACE and keeps the time (log 12); every other step adds at its own end. -/
theorem everyStepKeepsTraceOrdered : Obligations.EveryStepKeepsTraceOrdered := by
  intro s t hs h
  obtain ⟨rest, rfl⟩ | hnext := observedNext_step h
  · exact ⟨⟨List.Pairwise.nil, nofun⟩, Nat.le_refl _⟩
  · exact ⟨(traceOrdered_iff t).2 (((traceOrdered_iff s).1 hs).next hnext), hnext.time_le⟩

end Sys2Proof.Machine
end

section
/-! PROOF. The transmitter's micro-operations (42_waveform_transmitter.md sections 3 and 4): one entry of a SEND's
list, and how a SEND ends. -/

namespace Sys2Proof.Machine

/-! ### The step and its instruction -/

/-- Settles O3: a bus cycle decodes to itself as an instruction, and the sequencer decodes the word at SEQ_IDX. -/
theorem stepRunsDecodedInstruction : Obligations.StepRunsDecodedInstruction := by
  intro s i _
  refine ⟨fun c rest hin hdec => ?_, fun w hb hw hdec => ⟨fun hin => ?_, fun rest hin => ?_⟩⟩
  · cases hdec
    simp only [step, hin, hostTurn]
  · simp only [step, hin, sequencerTurn, hb, hw, hdec, if_true]
  · simp only [step, hin, sequencerTurn, hb, hw, hdec, if_true]

/-! ### SET_HIGH and SET_LOW -/

@[simp] theorem driveLine_seqIdx (op : DrvOp) (s : State) : (driveLine op s).seqIdx = s.seqIdx := by
  cases op <;> rfl

@[simp] theorem driveLine_uops (op : DrvOp) (s : State) : (driveLine op s).uops = s.uops := by
  cases op <;> rfl

/-- R139 and R142 before the last entry. -/
theorem transmitSet_more (op : DrvOp) {s : State} (ha : nextAnswer s = .ok)
    (hmore : s.seqIdx + 1 < uopCount s.uops) :
    transmitSet op s =
      { driveLine op (answered op .ok (latency s) s) with seqIdx := s.seqIdx + 1 } := by
  have hmore' : (driveLine op (answered op .ok (latency s) s)).seqIdx + 1 <
      uopCount (driveLine op (answered op .ok (latency s) s)).uops := by
    rwa [driveLine_seqIdx, driveLine_uops]
  rw [transmitSet_ok op ha, seqAdvance_more hmore', driveLine_seqIdx]
  rfl

/-- R139 and R142 at the last entry (log 10). -/
theorem transmitSet_last (op : DrvOp) {s : State} (ha : nextAnswer s = .ok)
    (hlast : uopCount s.uops ≤ s.seqIdx + 1) :
    transmitSet op s = idleWith .ok (driveLine op (answered op .ok (latency s) s)) := by
  rw [transmitSet_ok op ha, seqAdvance_last]
  rw [driveLine_seqIdx, driveLine_uops]
  exact Nat.not_lt.2 hlast

/-- Settles O30, by the three outcomes of a SET. -/
theorem setHighDrivesLineOrAborts : Obligations.SetHighDrivesLineOrAborts := fun s =>
  ⟨latency s, latency_isDraw s,
    fun ha hmore => congrArg Host.Outcome.next (transmitSet_more .setHigh ha hmore),
    fun ha hlast => congrArg Host.Outcome.next (transmitSet_last .setHigh ha hlast),
    fun ha => congrArg Host.Outcome.next (transmitSet_err .setHigh ha)⟩

/-- Settles O31, by the three outcomes of a SET. -/
theorem setLowDrivesLineOrAborts : Obligations.SetLowDrivesLineOrAborts := fun s =>
  ⟨latency s, latency_isDraw s,
    fun ha hmore => congrArg Host.Outcome.next (transmitSet_more .setLow ha hmore),
    fun ha hlast => congrArg Host.Outcome.next (transmitSet_last .setLow ha hlast),
    fun ha => congrArg Host.Outcome.next (transmitSet_err .setLow ha)⟩

/-! ### HOLD -/

@[simp] theorem holdFully_seqIdx (d : Duration) (s : State) : (holdFully d s).seqIdx = s.seqIdx := by
  rw [holdFully_eq]

@[simp] theorem holdFully_uops (d : Duration) (s : State) : (holdFully d s).uops = s.uops := by
  rw [holdFully_eq]

theorem exec_hold (d : Duration) (s : State) : exec (.hold d) s = .next (seqAdvance (holdFully d s)) := rfl

/-- Settles O32: the draw is the one `nextDelay` gives, and SEQ_IDX moves as after every micro-operation. -/
theorem holdLastsItsDurationPlusSlack : Obligations.HoldLastsItsDurationPlusSlack := by
  intro s d
  obtain ⟨hle, hlisted⟩ := nextDelay_isDraw s.params.holdSlackUs s
  refine ⟨nextDelay s.params.holdSlackUs s, hle, fun hmore => ?_, fun hlast => ?_, hlisted⟩
  · rw [exec_hold, seqAdvance_more (by rwa [holdFully_seqIdx, holdFully_uops]), holdFully_eq]
  · rw [exec_hold, seqAdvance_last (by rw [holdFully_seqIdx, holdFully_uops]; exact Nat.not_lt.2 hlast), holdFully_eq]

/-- The greatest product of a count and a pulse length (30_encoding.md R78). -/
theorem count_mul_pulse_le (count : BitVec 8) (pulse : Word) :
    count.toNat * pulse.toNat ≤ 255 * (2 ^ 32 - 1) :=
  Nat.mul_le_mul (Nat.le_of_lt_succ count.isLt) (Nat.le_sub_one_of_lt pulse.isLt)

/-- The hold of `count` pulse units. -/
abbrev holdDur (count : BitVec 8) (pulse : Word) : Duration := BitVec.ofNat 41 (count.toNat * pulse.toNat)

theorem holdFor_eq (count : BitVec 8) (pulse : Word) : holdFor count pulse = .hold (holdDur count pulse) := rfl

/-- R134: the product fits in DUR. -/
theorem toNat_holdDur (count : BitVec 8) (pulse : Word) :
    (holdDur count pulse).toNat = count.toNat * pulse.toNat := by
  have hle := count_mul_pulse_le count pulse
  exact Nat.mod_eq_of_lt (by omega)

/-- On the reference hardware a hold lasts its duration (R138). -/
theorem holdFully_reference {s : State} (href : ReferenceHardware s) (d : Duration) :
    holdFully d s =
      { s with
        time := s.time + d.toNat, timer := 0#41, delays := s.delays.tail, delayCount := s.delayCount + 1 } := by
  rw [holdFully_eq, href.1, nextDelay_zero, Nat.add_zero]

/-- Settles O37, by `toNat_holdDur` and the time of a hold without slack. -/
theorem holdDurationIsExactProduct : Obligations.HoldDurationIsExactProduct := by
  intro c p
  have hle := count_mul_pulse_le c p
  refine ⟨holdDur c p, holdFor_eq c p, toNat_holdDur c p, by rw [toNat_holdDur]; omega, fun s href => ?_⟩
  have hobs : observed (seqAdvance (holdFully (holdDur c p) s)) = (observed s).pass (holdDur c p).toNat := by
    rw [observed_seqAdvance, holdFully_reference href]
    rfl
  refine ⟨seqAdvance (holdFully (holdDur c p) s), exec_hold _ s, ?_⟩
  rw [← toNat_holdDur]
  exact congrArg Observed.time hobs

/-! ### Pulse pairs and waveforms -/

theorem pairOf_zero {p : SendPlan} {b : Nat} (hb : b < p.llen.toNat)
    (hdigit : p.code.getLsbD (p.llen.toNat - 1 - b) = false) : pairOf p b = zeroPair p.proto :=
  if_pos ⟨hb, hdigit⟩

theorem pairOf_one {p : SendPlan} {b : Nat}
    (hdigit : p.code.getLsbD (p.llen.toNat - 1 - b) = true) : pairOf p b = onePair p.proto :=
  if_neg fun ⟨_, hzero⟩ => Bool.false_ne_true (hzero.symm.trans hdigit)

/-- The guard policy (R132). -/
theorem pairOf_beyond {p : SendPlan} {b : Nat} (hb : p.llen.toNat ≤ b) : pairOf p b = onePair p.proto :=
  if_neg fun ⟨hlt, _⟩ => Nat.not_lt.2 hb hlt

/-- Settles O52: the branches of `pairOf`, and the six rows of the table (40_protocol_lut.md R100, R103). -/
theorem bitIsSentAsTablePair : Obligations.BitIsSentAsTablePair := by
  intro p b zero one sync
  have hzero : zeroPair p.proto = zero := by
    dsimp only [zero]; generalize p.proto = i; revert i; decide
  have hone : onePair p.proto = one := by
    dsimp only [one]; generalize p.proto = i; revert i; decide
  have hsync : syncPair p.proto = sync := by
    dsimp only [sync]; generalize p.proto = i; revert i; decide
  exact ⟨fun hb hd => (pairOf_zero hb hd).trans hzero, fun _ hd => (pairOf_one hd).trans hone,
    fun hb => (pairOf_beyond hb).trans hone, hsync⟩

/-- Settles O53: the durations are exact by `toNat_holdDur`. -/
theorem waveformIsItsFourMicroOperations : Obligations.WaveformIsItsFourMicroOperations :=
  ⟨fun h l pulse => ⟨holdDur h pulse, holdDur l pulse, rfl, toNat_holdDur h pulse, toNat_holdDur l pulse⟩, rfl⟩

/-! ### How a SEND goes on and ends -/

/-- What a SEND has latched, and that it runs (10_state.md R36). -/
def sendLatches (s : State) : CurCmd × UopList × Code × BitVec 33 × Word :=
  (s.curCmd, s.uops, s.lcode, s.llen, s.txlen)

/-- The three ways on from `s` to `t` of a running SEND (R140, R142, R143). -/
def SendGoesOnOrEnds (s t : State) : Prop :=
  (sendLatches t = sendLatches s ∧ (t.seqIdx = s.seqIdx ∨ t.seqIdx = s.seqIdx + 1)) ∨
  (t.busy = false ∧ t.result = .ok ∧ s.seqIdx + 1 = uopCount s.uops) ∨
  (t.busy = false ∧ t.result = .errIo ∧ nextAnswer s = .err ∧ t.lineLevel = s.lineLevel)

theorem sendLatches_driveLine (op : DrvOp) (s : State) : sendLatches (driveLine op s) = sendLatches s := by
  cases op <;> rfl

/-- A completed micro-operation that left the SEND's list alone is followed by the next entry or the end. -/
theorem sendGoesOnOrEnds_seqAdvance {s u : State} (hidx : s.seqIdx < uopCount s.uops)
    (hlatches : sendLatches u = sendLatches s) (hseq : u.seqIdx = s.seqIdx) :
    SendGoesOnOrEnds s (seqAdvance u) := by
  have huops : u.uops = s.uops := congrArg (fun l => l.2.1) hlatches
  by_cases hmore : u.seqIdx + 1 < uopCount u.uops
  · rw [seqAdvance_more hmore]
    exact .inl ⟨hlatches, .inr (congrArg (· + 1) hseq)⟩
  · rw [seqAdvance_last hmore]
    rw [huops, hseq] at hmore
    exact .inr (.inl ⟨rfl, rfl, by omega⟩)

theorem GoodState.sendGoesOnOrEnds_sequencerTurn {s t : State} (hs : GoodState s) (hc : s.curCmd = .send)
    (h : sequencerTurn s = .next t) : SendGoesOnOrEnds s t := by
  obtain ⟨huops, hlt, -, -⟩ := hs.sendTransmits hc
  have hidx : s.seqIdx < uopCount s.uops := by rw [huops]; exact hlt
  obtain ⟨hb, -⟩ | ⟨hi, -⟩ | ⟨hi, -⟩ | ⟨-, op, -, rfl⟩ | ⟨-, d, rfl⟩ := hs.sequencerTurn_cases h
  · exact absurd (hs.busy_of_command (by simp [hc])) (by simp [hb])
  · exact absurd (hc.symm.trans hi) (by decide)
  · exact absurd (hc.symm.trans hi) (by decide)
  · cases ha : nextAnswer s with
    | ok =>
      rw [transmitSet_ok op ha]
      exact sendGoesOnOrEnds_seqAdvance hidx (sendLatches_driveLine op _) (driveLine_seqIdx op _)
    | err =>
      rw [transmitSet_err op ha]
      exact .inr (.inr ⟨rfl, rfl, ha, rfl⟩)
  · rw [holdFully_eq]
    exact sendGoesOnOrEnds_seqAdvance hidx rfl rfl

/-- No host access ends a SEND: a command is rejected while it runs, and the rest is no matter of it (R143). -/
theorem GoodState.send_kept_busCycle {s t : State} (hs : GoodState s) (hc : s.curCmd = .send) {c : BusCycle}
    (h : exec c.toInstr s = .next t) : sendLatches t = sendLatches s ∧ t.seqIdx = s.seqIdx := by
  obtain ⟨off, rfl⟩ | ⟨v, rfl⟩ | ⟨off, v, rfl⟩ | ⟨start, -, rfl⟩ := exec_busCycle_cases h
  · exact ⟨rfl, rfl⟩
  · exact ⟨rfl, rfl⟩
  · have hview := invariantView_memWrite off v s
    have hlatches : sendLatches (invariantView (memWrite off v s)) = sendLatches (invariantView s) := by rw [hview]
    have hseq : (invariantView (memWrite off v s)).seqIdx = (invariantView s).seqIdx := by rw [hview]
    exact ⟨hlatches, hseq⟩
  · rw [issueCommand_busy start (hs.busy_of_command (by simp [hc]))]
    exact ⟨rfl, rfl⟩

theorem GoodState.sendGoesOnOrEnds_step {s t : State} (hs : GoodState s) (hc : s.curCmd = .send)
    (hrst : s.inputs.head? ≠ some .rst) (h : step s = .next t) : SendGoesOnOrEnds s t := by
  obtain ⟨rest, hin, -⟩ | ⟨c, rest, -, hexec⟩ | ⟨-, hturn⟩ := step_cases h
  · exact absurd (by rw [hin]; rfl) hrst
  · obtain ⟨hlatches, hseq⟩ := (hs.after_withInputs rest).send_kept_busCycle hc hexec
    exact .inl ⟨hlatches, .inl hseq⟩
  · exact (hs.after_withInputs s.inputs.tail).sendGoesOnOrEnds_sequencerTurn hc hturn

/-- Settles O50, by the three ways on of a SEND. -/
theorem runningSendEndsOnlyByListOrError : Obligations.RunningSendEndsOnlyByListOrError := by
  intro s t hs hc hrst h
  obtain ⟨hlatches, hseq⟩ | hended := hs.sendGoesOnOrEnds_step hc hrst h
  · simp only [sendLatches, Prod.mk.injEq] at hlatches
    obtain ⟨hcmd, huops, hlcode, hllen, htxlen⟩ := hlatches
    exact .inl ⟨hcmd.trans hc, huops, hlcode, hllen, htxlen, hseq⟩
  · exact .inr hended

end Sys2Proof.Machine
end

section
/-! PROOF. The list BuildSend builds (42_waveform_transmitter.md R136): its length, its entries in closed form (R137)
and its counts (R145). -/

namespace Sys2Proof.Machine

/-! ### Lists made of parts -/

/-- One part more at the end. -/
theorem flatMap_range_succ {α : Type} (f : Nat → List α) (n : Nat) :
    (List.range (n + 1)).flatMap f = (List.range n).flatMap f ++ f n := by
  rw [List.range_succ, List.flatMap_append, List.flatMap_singleton]

theorem sum_map_range_const {f : Nat → Nat} {c : Nat} (hf : ∀ b, f b = c) (n : Nat) :
    ((List.range n).map f).sum = n * c := by
  rw [funext hf, List.map_const', List.length_range, List.sum_replicate_nat]

theorem length_flatMap_range {α : Type} {f : Nat → List α} {m : Nat} (hlen : ∀ b, (f b).length = m) (n : Nat) :
    ((List.range n).flatMap f).length = n * m := by
  rw [List.length_flatMap, sum_map_range_const hlen]

theorem count_flatMap_range {α : Type} [BEq α] {f : Nat → List α} {x : α} {m : Nat}
    (hcount : ∀ b, (f b).count x = m) (n : Nat) : ((List.range n).flatMap f).count x = n * m := by
  rw [List.count_flatMap, sum_map_range_const (f := List.count x ∘ f) hcount]

/-- With parts of length `m`, entry `k` is entry `k % m` of part `k / m`. -/
theorem getElem?_flatMap_range {α : Type} {f : Nat → List α} {m : Nat} (hlen : ∀ b, (f b).length = m)
    {n k : Nat} (hk : k < n * m) : ((List.range n).flatMap f)[k]? = (f (k / m))[k % m]? := by
  have hm : 0 < m := Nat.pos_of_ne_zero fun h => by simp [h] at hk
  induction n with
  | zero => simp at hk
  | succ n ih =>
    have hlen' := length_flatMap_range hlen n
    rw [flatMap_range_succ]
    obtain hlt | hge := Nat.lt_or_ge k (n * m)
    · rw [List.getElem?_append_left (hlen'.symm ▸ hlt), ih hlt]
    · have hlast : k / m = n := Nat.div_eq_of_lt_le hge hk
      rw [List.getElem?_append_right (hlen'.symm ▸ hge), hlen', hlast, Nat.mod_eq_sub_mul_div, hlast,
        Nat.mul_comm m n]

/-! ### A waveform and one repeat -/

theorem getElem?_waveform (pair : BitVec 8 × BitVec 8) (pulse : Word) {phase : Nat} (hphase : phase < 4) :
    (waveform pair pulse)[phase]? = some (waveformPhase pair pulse phase) := by
  match phase, hphase with
  | 0, _ | 1, _ | 2, _ | 3, _ => rfl

theorem length_waveform (pair : BitVec 8 × BitVec 8) (pulse : Word) : (waveform pair pulse).length = 4 := rfl

/-- The waveforms of the bits of one repeat (R131). -/
def bitOps (p : SendPlan) : List MicroOp :=
  (List.range p.txlen.toNat).flatMap fun b => waveform (pairOf p b) p.pulse

theorem frameOps_eq (p : SendPlan) :
    frameOps p = bitOps p ++ (waveform (syncPair p.proto) p.pulse ++ [gap]) := List.append_assoc ..

theorem length_bitOps (p : SendPlan) : (bitOps p).length = 4 * p.txlen.toNat := by
  rw [bitOps, length_flatMap_range fun b => length_waveform (pairOf p b) p.pulse, Nat.mul_comm]

theorem length_frameOps (p : SendPlan) : (frameOps p).length = frameLen p := by
  rw [frameOps_eq, List.length_append, length_bitOps]; rfl

/-- Entry `j` of one repeat is a phase of a bit's waveform, a phase of the sync, or the gap. -/
theorem getElem?_frameOps (p : SendPlan) {j : Nat} (hj : j < frameLen p) :
    (frameOps p)[j]? = some (sendEntry p j) := by
  have hbits := length_bitOps p
  simp only [frameOps_eq, sendEntry, Nat.mod_eq_of_lt hj]
  split
  · rename_i hbit
    rw [List.getElem?_append_left (by omega), bitOps,
      getElem?_flatMap_range (fun b => length_waveform (pairOf p b) p.pulse) (by omega)]
    exact getElem?_waveform _ _ (Nat.mod_lt _ (by decide))
  rw [List.getElem?_append_right (by omega), hbits]
  split
  · rename_i hsync
    have hphase : j - 4 * p.txlen.toNat < 4 := by omega
    rw [List.getElem?_append_left hphase, getElem?_waveform _ _ hphase]
  · have hlast : j - 4 * p.txlen.toNat = 4 := by rw [frameLen] at hj; omega
    rw [hlast]
    rfl

/-! ### The repeats -/

/-- BuildSend as the repeats by their number. -/
theorem buildSend_eq (p : SendPlan) :
    buildSend p = (List.range p.repeats.toNat).flatMap fun _ => frameOps p := by
  rw [buildSend, List.flatMap_def, List.map_const', List.length_range]

theorem length_buildSend (p : SendPlan) : (buildSend p).length = sendLen p := by
  rw [buildSend_eq, length_flatMap_range fun _ => length_frameOps p, sendLen]

theorem frameLen_pos (p : SendPlan) : 0 < frameLen p := Nat.succ_pos _

theorem sendEntry_mod_frameLen (p : SendPlan) (k : Nat) : sendEntry p (k % frameLen p) = sendEntry p k := by
  simp only [sendEntry, Nat.mod_mod]

/-- R137 inside the list. -/
theorem getElem?_buildSend (p : SendPlan) {k : Nat} (hk : k < sendLen p) :
    (buildSend p)[k]? = some (sendEntry p k) := by
  rw [buildSend_eq, getElem?_flatMap_range (fun _ => length_frameOps p) hk,
    getElem?_frameOps p (Nat.mod_lt k (frameLen_pos p)), sendEntry_mod_frameLen]

/-- Settles O38: inside the list `getElem?_buildSend`, beyond it the length. -/
theorem closedFormIsBuiltList : Obligations.ClosedFormIsBuiltList := by
  intro p k
  split
  · rename_i hk
    exact getElem?_buildSend p hk
  · rename_i hk
    exact List.getElem?_eq_none (by rw [length_buildSend]; exact Nat.not_lt.1 hk)

/-! ### The counts -/

/-- An operation that each waveform has once, and that is no gap, is in one repeat once for each bit and the sync. -/
theorem count_buildSend {m : MicroOp} (hgap : gap ≠ m)
    (hwave : ∀ pair pulse, (waveform pair pulse).count m = 1) (p : SendPlan) :
    (buildSend p).count m = p.repeats.toNat * (p.txlen.toNat + 1) := by
  rw [buildSend_eq]
  refine count_flatMap_range (fun _ => ?_) _
  rw [frameOps_eq, List.count_append, List.count_append, bitOps, count_flatMap_range (fun b => hwave _ _), hwave,
    List.count_singleton, if_neg (by simpa using hgap), Nat.mul_one]

theorem count_setHigh_waveform (pair : BitVec 8 × BitVec 8) (pulse : Word) :
    (waveform pair pulse).count (.drv .setHigh) = 1 := by
  simp [waveform, holdFor]

theorem count_setLow_waveform (pair : BitVec 8 × BitVec 8) (pulse : Word) :
    (waveform pair pulse).count (.drv .setLow) = 1 := by
  simp [waveform, holdFor]

theorem count_setHigh_buildSend (p : SendPlan) :
    (buildSend p).count (.drv .setHigh) = p.repeats.toNat * (p.txlen.toNat + 1) :=
  count_buildSend (by simp [gap]) count_setHigh_waveform p

theorem count_setLow_buildSend (p : SendPlan) :
    (buildSend p).count (.drv .setLow) = p.repeats.toNat * (p.txlen.toNat + 1) :=
  count_buildSend (by simp [gap]) count_setLow_waveform p

/-- A SET, or a hold within the range of R78. -/
def IsSetOrHold (m : MicroOp) : Prop :=
  m = .drv .setHigh ∨ m = .drv .setLow ∨ ∃ d : Duration, m = .hold d ∧ d.toNat ≤ 255 * (2 ^ 32 - 1)

theorem isSetOrHold_holdFor (count : BitVec 8) (pulse : Word) : IsSetOrHold (holdFor count pulse) :=
  .inr (.inr ⟨_, holdFor_eq count pulse, toNat_holdDur count pulse ▸ count_mul_pulse_le count pulse⟩)

theorem isSetOrHold_waveform (pair : BitVec 8 × BitVec 8) (pulse : Word) :
    ∀ m ∈ waveform pair pulse, IsSetOrHold m := by
  simp only [waveform, List.forall_mem_cons]
  exact ⟨.inl rfl, isSetOrHold_holdFor .., .inr (.inl rfl), isSetOrHold_holdFor .., List.forall_mem_nil _⟩

theorem isSetOrHold_gap : IsSetOrHold gap := .inr (.inr ⟨_, rfl, by decide⟩)

theorem isSetOrHold_frameOps (p : SendPlan) : ∀ m ∈ frameOps p, IsSetOrHold m := by
  intro m hm
  rw [frameOps_eq, List.mem_append, List.mem_append, bitOps, List.mem_flatMap, List.mem_singleton] at hm
  obtain ⟨b, -, hbit⟩ | hsync | rfl := hm
  · exact isSetOrHold_waveform _ _ m hbit
  · exact isSetOrHold_waveform _ _ m hsync
  · exact isSetOrHold_gap

theorem isSetOrHold_buildSend (p : SendPlan) : ∀ m ∈ buildSend p, IsSetOrHold m := by
  intro m hm
  rw [buildSend_eq, List.mem_flatMap] at hm
  obtain ⟨-, -, hframe⟩ := hm
  exact isSetOrHold_frameOps p m hframe

/-- Settles O39, by the counts of one waveform and the length. -/
theorem builtListHasOnlyItsSetsAndHolds : Obligations.BuiltListHasOnlyItsSetsAndHolds := fun p =>
  ⟨count_setHigh_buildSend p, count_setLow_buildSend p, isSetOrHold_buildSend p, length_buildSend p⟩

end Sys2Proof.Machine
end

section
/-! PROOF. A whole SEND on the reference hardware (42_waveform_transmitter.md R138, R139, R142, R144): what its list
says it sends, and that the sequencer sends it. -/

namespace Sys2Proof.Machine

/-! ### The time and the events of a list -/

/-- How long a micro-operation lasts on the reference hardware (R138, R139). -/
def opTime : MicroOp → Nat
  | .hold d => d.toNat
  | .drv _ => 0

/-- How long a list lasts on the reference hardware. -/
def opsTime (ops : List MicroOp) : Nat := (ops.map opTime).sum

/-- The events of a list that starts at `t` on the reference hardware, with every answer `ok`. -/
def opsEvents : Nat → List MicroOp → List DrvEvent
  | _, [] => []
  | t, .hold d :: ops => opsEvents (t + d.toNat) ops
  | t, .drv op :: ops => { time := t, op := op, res := .ok } :: opsEvents t ops

theorem opsTime_append (xs ys : List MicroOp) : opsTime (xs ++ ys) = opsTime xs + opsTime ys := by
  rw [opsTime, List.map_append, List.sum_append]; rfl

theorem opsEvents_append (t : Nat) (xs ys : List MicroOp) :
    opsEvents t (xs ++ ys) = opsEvents t xs ++ opsEvents (t + opsTime xs) ys := by
  induction xs generalizing t with
  | nil => rfl
  | cons m xs ih =>
    cases m with
    | hold d =>
      have htime : opsTime (.hold d :: xs) = d.toNat + opsTime xs := List.sum_cons
      rw [List.cons_append, opsEvents, opsEvents, ih, htime, Nat.add_assoc]
    | drv op =>
      have htime : opsTime (.drv op :: xs) = opsTime xs := List.sum_cons.trans (Nat.zero_add _)
      rw [List.cons_append, opsEvents, opsEvents, ih, htime, List.cons_append]

/-- A list of parts lasts the sum of what its parts last. -/
theorem opsTime_flatMap_range (f : Nat → List MicroOp) (n : Nat) :
    opsTime ((List.range n).flatMap f) = ((List.range n).map fun b => opsTime (f b)).sum := by
  induction n with
  | zero => rfl
  | succ n ih =>
    rw [flatMap_range_succ, opsTime_append, ih, List.range_succ, List.map_append, List.sum_append,
      List.map_singleton, List.sum_singleton]

/-- Each part of a list starts when those before it are done. -/
theorem opsEvents_flatMap_range (t : Nat) (f : Nat → List MicroOp) (n : Nat) :
    opsEvents t ((List.range n).flatMap f) =
      (List.range n).flatMap fun b => opsEvents (t + ((List.range b).map fun b' => opsTime (f b')).sum) (f b) := by
  induction n with
  | zero => rfl
  | succ n ih => rw [flatMap_range_succ, flatMap_range_succ, opsEvents_append, ih, opsTime_flatMap_range]

/-! ### The time and the events of a SEND's list -/

theorem opsTime_waveform (pair : BitVec 8 × BitVec 8) (pulse : Word) :
    opsTime (waveform pair pulse) = pairTime pair pulse := by
  have hsum : opsTime (waveform pair pulse) = (holdDur pair.1 pulse).toNat + (holdDur pair.2 pulse).toNat := by
    simp [opsTime, waveform, opTime, holdFor_eq]
  rw [hsum, toNat_holdDur, toNat_holdDur, pairTime, Nat.add_mul]

theorem opsEvents_waveform (t : Nat) (pair : BitVec 8 × BitVec 8) (pulse : Word) :
    opsEvents t (waveform pair pulse) = waveformEvents pair pulse t := by
  simp only [waveform, waveformEvents, holdFor_eq, opsEvents, toNat_holdDur]

theorem opsTime_bitOps (p : SendPlan) : opsTime (bitOps p) = bitStart p p.txlen.toNat := by
  simp only [bitOps, opsTime_flatMap_range, opsTime_waveform, bitStart]

theorem opsTime_frameOps (p : SendPlan) : opsTime (frameOps p) = frameTime p := by
  rw [frameOps_eq, opsTime_append, opsTime_append, opsTime_bitOps, opsTime_waveform, ← Nat.add_assoc]
  rfl

theorem opsEvents_frameOps (t : Nat) (p : SendPlan) : opsEvents t (frameOps p) = frameEvents p t := by
  have hbits : opsEvents t (bitOps p) =
      (List.range p.txlen.toNat).flatMap fun b => waveformEvents (pairOf p b) p.pulse (t + bitStart p b) := by
    simp only [bitOps, opsEvents_flatMap_range, opsTime_waveform, opsEvents_waveform, bitStart]
  have hgap (t' : Nat) : opsEvents t' [gap] = [] := rfl
  rw [frameOps_eq, opsEvents_append, opsEvents_append, hbits, opsTime_bitOps, opsEvents_waveform, hgap,
    List.append_nil, frameEvents]

theorem opsTime_buildSend (p : SendPlan) : opsTime (buildSend p) = p.repeats.toNat * frameTime p := by
  rw [buildSend_eq, opsTime_flatMap_range, sum_map_range_const fun _ => opsTime_frameOps p]

theorem opsEvents_buildSend (t : Nat) (p : SendPlan) : opsEvents t (buildSend p) = sendEvents p t := by
  simp only [buildSend_eq, opsEvents_flatMap_range, opsEvents_frameOps,
    sum_map_range_const fun _ => opsTime_frameOps p, sendEvents]

/-- A SEND that sends anything ends with the low half of its last sync and the gap. -/
theorem buildSend_ends_low {p : SendPlan} (hrep : p.repeats ≠ 0#32) :
    ∃ ops d d', buildSend p = ops ++ [.drv .setLow, .hold d, .hold d'] := by
  have hpos : p.repeats.toNat ≠ 0 := fun h => hrep (BitVec.eq_of_toNat_eq h)
  obtain ⟨r, hr⟩ := Nat.exists_eq_succ_of_ne_zero hpos
  have hsync : waveform (syncPair p.proto) p.pulse ++ [gap] =
      [.drv .setHigh, holdFor (syncPair p.proto).1 p.pulse] ++
        [.drv .setLow, holdFor (syncPair p.proto).2 p.pulse, gap] := rfl
  rw [buildSend_eq, hr, flatMap_range_succ, frameOps_eq, hsync, ← List.append_assoc, ← List.append_assoc]
  exact ⟨_, _, _, rfl⟩

/-! ### What the sequencer does with a list -/

/-- What one micro-operation of a SEND makes of LINE, time and TRACE on the reference hardware, answered `ok`. -/
def Observed.playOp (o : Observed) : MicroOp → Observed
  | .hold d => o.pass d.toNat
  | .drv op => o.record op .ok

def Observed.play (o : Observed) (ops : List MicroOp) : Observed := ops.foldl playOp o

theorem Observed.play_cons (o : Observed) (m : MicroOp) (ops : List MicroOp) :
    o.play (m :: ops) = (o.playOp m).play ops := rfl

theorem Observed.play_append (o : Observed) (xs ys : List MicroOp) : o.play (xs ++ ys) = (o.play xs).play ys :=
  List.foldl_append

theorem Observed.time_play (o : Observed) (ops : List MicroOp) : (o.play ops).time = o.time + opsTime ops := by
  induction ops generalizing o with
  | nil => rfl
  | cons m ops ih =>
    have htime : (o.playOp m).time = o.time + opTime m := by cases m <;> rfl
    rw [play_cons, ih, htime, Nat.add_assoc]
    rfl

theorem Observed.trace_play (o : Observed) (ops : List MicroOp) :
    (o.play ops).trace = o.trace ++ opsEvents o.time ops := by
  induction ops generalizing o with
  | nil => exact (List.append_nil _).symm
  | cons m ops ih =>
    rw [play_cons, ih]
    cases m with
    | hold d => rfl
    | drv op => exact List.append_assoc ..

/-- The answers that come are all `ok`, and there is one for every SET of `ops`. -/
structure AnswersFor (ops : List MicroOp) (answers : List Answer) : Prop where
  allOk : ∀ a ∈ answers, a = .ok
  enough : ops.count (.drv .setHigh) + ops.count (.drv .setLow) ≤ answers.length

theorem AnswersFor.hold {d : Duration} {ops : List MicroOp} {answers : List Answer}
    (h : AnswersFor (.hold d :: ops) answers) : AnswersFor ops answers := by
  obtain ⟨hall, hlen⟩ := h
  simp only [List.count_cons_of_ne, ne_eq, reduceCtorEq, not_false_eq_true] at hlen
  exact ⟨hall, hlen⟩

/-- A SET takes the first answer. -/
theorem AnswersFor.set {op : DrvOp} (hop : op = .setHigh ∨ op = .setLow) {ops : List MicroOp}
    {answers : List Answer} (h : AnswersFor (.drv op :: ops) answers) :
    ∃ rest, answers = .ok :: rest ∧ AnswersFor ops rest := by
  obtain ⟨hall, hlen⟩ := h
  have hlen' : ops.count (.drv .setHigh) + ops.count (.drv .setLow) + 1 ≤ answers.length := by
    obtain rfl | rfl := hop <;> simp at hlen <;> omega
  cases answers with
  | nil => simp at hlen'
  | cons a rest =>
    obtain ⟨rfl, hrest⟩ := List.forall_mem_cons.1 hall
    exact ⟨rest, rfl, hrest, Nat.le_of_succ_le_succ hlen'⟩

/-- A SEND at the entry before `ops`, the rest of its list, on the reference hardware, with no inputs and an answer
`ok` for every SET that is left. -/
structure SendLeft (p : SendPlan) (ops : List MicroOp) (s : State) : Prop where
  running : s.busy = true
  list : s.uops = .send p
  rest : (buildSend p).drop s.seqIdx = ops
  noInputs : s.inputs = []
  reference : ReferenceHardware s
  answers : AnswersFor ops s.answers

/-- What a SEND leaves as it was, whatever it sends. -/
def sendFrame (s : State) : Lifecycle × Bool × Word := (s.lifecycle, s.lineOwned, s.devBitlen)

/-- A micro-operation of a SEND is done, LINE, time, TRACE and the answers apart, and SEQ_IDX is still at it. -/
structure OpDone (m : MicroOp) (s t : State) : Prop where
  observed : observed t = (observed s).playOp m
  frame : sendFrame t = sendFrame s
  running : t.busy = s.busy
  list : t.uops = s.uops
  index : t.seqIdx = s.seqIdx
  inputs : t.inputs = s.inputs
  params : t.params = s.params

theorem exec_set_reference {s : State} {op : DrvOp} (hop : op = .setHigh ∨ op = .setLow)
    (href : ReferenceHardware s) (ha : nextAnswer s = .ok) :
    ∃ t, exec op.toInstr s = .next (seqAdvance t) ∧ OpDone (.drv op) s t ∧ t.answers = s.answers.tail := by
  have hlat : latency s = 0 := by rw [latency, href.2, nextDelay_zero]
  have hset := transmitSet_ok op ha
  rw [hlat] at hset
  refine ⟨driveLine op (answered op .ok 0 s), ?_⟩
  obtain rfl | rfl := hop
  · exact ⟨congrArg Host.Outcome.next hset, ⟨rfl, rfl, rfl, rfl, rfl, rfl, rfl⟩, rfl⟩
  · exact ⟨congrArg Host.Outcome.next hset, ⟨rfl, rfl, rfl, rfl, rfl, rfl, rfl⟩, rfl⟩

theorem exec_hold_reference {s : State} (d : Duration) (href : ReferenceHardware s) :
    ∃ t, exec (.hold d) s = .next (seqAdvance t) ∧ OpDone (.hold d) s t ∧ t.answers = s.answers := by
  rw [exec_hold, holdFully_reference href]
  exact ⟨_, rfl, ⟨rfl, rfl, rfl, rfl, rfl, rfl, rfl⟩, rfl⟩

/-- The meaning of a SET or a hold with its answer at hand, before SEQ_IDX moves on. -/
theorem exec_reference {m : MicroOp} {ops : List MicroOp} {s : State} (hm : IsSetOrHold m)
    (href : ReferenceHardware s) (hans : AnswersFor (m :: ops) s.answers) :
    ∃ t, exec m.toInstr s = .next (seqAdvance t) ∧ OpDone m s t ∧ AnswersFor ops t.answers := by
  have hset (op : DrvOp) (hop : op = .setHigh ∨ op = .setLow) (hans : AnswersFor (.drv op :: ops) s.answers) :
      ∃ t, exec op.toInstr s = .next (seqAdvance t) ∧ OpDone (.drv op) s t ∧ AnswersFor ops t.answers := by
    obtain ⟨rest, hcons, hrest⟩ := hans.set hop
    have ha : nextAnswer s = .ok := by rw [nextAnswer, hcons]
    obtain ⟨t, hexec, hdone, htail⟩ := exec_set_reference hop href ha
    exact ⟨t, hexec, hdone, by rwa [htail, hcons]⟩
  obtain rfl | rfl | ⟨d, rfl, -⟩ := hm
  · exact hset .setHigh (.inl rfl) hans
  · exact hset .setLow (.inr rfl) hans
  · obtain ⟨t, hexec, hdone, hkept⟩ := exec_hold_reference d href
    exact ⟨t, hexec, hdone, hkept ▸ hans.hold⟩

/-! ### The run -/

/-- The first entry that is left is the one at SEQ_IDX. -/
theorem SendLeft.head {p : SendPlan} {m : MicroOp} {ops : List MicroOp} {s : State}
    (hs : SendLeft p (m :: ops) s) : (buildSend p)[s.seqIdx]? = some m := by
  rw [← List.head?_drop, hs.rest]; rfl

theorem SendLeft.tail {p : SendPlan} {m : MicroOp} {ops : List MicroOp} {s : State}
    (hs : SendLeft p (m :: ops) s) : (buildSend p).drop (s.seqIdx + 1) = ops := by
  rw [← List.tail_drop, hs.rest]; rfl

/-- One step performs the first entry that is left (R142). -/
theorem SendLeft.step_head {p : SendPlan} {m : MicroOp} {ops : List MicroOp} {s : State}
    (hs : SendLeft p (m :: ops) s) :
    ∃ t, step s = .next (seqAdvance t) ∧ OpDone m s t ∧ AnswersFor ops t.answers := by
  have hlt : s.seqIdx < sendLen p := length_buildSend p ▸ (List.getElem?_eq_some_iff.1 hs.head).1
  have hentry : sendEntry p s.seqIdx = m := Option.some.inj ((getElem?_buildSend p hlt).symm.trans hs.head)
  have hw : uopAt s.uops s.seqIdx = some (encodeMicroOp m) := by rw [hs.list, ← hentry]; exact if_pos hlt
  have hstep : step s = exec m.toInstr s := by
    rw [← sequencerTurn_of_uopAt hs.running hw, step, hs.noInputs]
  rw [hstep]
  exact exec_reference (isSetOrHold_buildSend p m (List.mem_of_getElem? hs.head)) hs.reference hs.answers

/-- SEQ_IDX moves on to the next entry that is left. -/
theorem SendLeft.advance {p : SendPlan} {m : MicroOp} {ops : List MicroOp} {s t : State}
    (hs : SendLeft p (m :: ops) s) (hdone : OpDone m s t) (hans : AnswersFor ops t.answers) (hne : ops ≠ []) :
    SendLeft p ops (seqAdvance t) ∧ sendFrame (seqAdvance t) = sendFrame s := by
  have hlist : t.uops = .send p := hdone.list.trans hs.list
  have hmore : t.seqIdx + 1 < uopCount t.uops := by
    have hlt : s.seqIdx + 1 < (buildSend p).length := by
      rw [← hs.tail, ne_eq, List.drop_eq_nil_iff, Nat.not_le] at hne
      exact hne
    rwa [hdone.index, hlist, uopCount, ← length_buildSend]
  rw [seqAdvance_more hmore]
  refine ⟨?_, hdone.frame⟩
  exact {
    running := hdone.running.trans hs.running
    list := hlist
    rest := by rw [hdone.index]; exact hs.tail
    noInputs := hdone.inputs.trans hs.noInputs
    reference := by rw [ReferenceHardware, hdone.params]; exact hs.reference
    answers := hans }

/-- The last entry ends the SEND (log 10). -/
theorem SendLeft.finish {p : SendPlan} {m : MicroOp} {s t : State} (hs : SendLeft p [m] s)
    (hdone : OpDone m s t) : seqAdvance t = idleWith .ok t := by
  apply seqAdvance_last
  rw [hdone.index, hdone.list, hs.list, uopCount, ← length_buildSend, Nat.not_lt]
  exact List.drop_eq_nil_iff.1 hs.tail

theorem run_succ {k : Nat} {s t : State} (h : step s = .next t) :
    Host.Core.run core (k + 1) s = Host.Core.run core k t := by
  have hcore : core.step s = .next t := h
  simp only [Host.Core.run, hcore]

/-- As many steps as entries are left send them all and end the SEND with OK. -/
theorem SendLeft.run {p : SendPlan} {ops : List MicroOp} {s : State} (hs : SendLeft p ops s) (hne : ops ≠ []) :
    ∃ t, Host.Core.run core ops.length s = .next (idleWith .ok t) ∧
      observed t = (observed s).play ops ∧ sendFrame t = sendFrame s := by
  induction ops generalizing s with
  | nil => exact absurd rfl hne
  | cons m ops ih =>
    obtain ⟨t, hstep, hdone, hans⟩ := hs.step_head
    rw [List.length_cons, run_succ hstep]
    by_cases hlast : ops = []
    · subst hlast
      exact ⟨t, congrArg Host.Outcome.next (hs.finish hdone), hdone.observed, hdone.frame⟩
    · obtain ⟨hleft, hframe⟩ := hs.advance hdone hans hlast
      obtain ⟨u, hrun, hobs, hframe'⟩ := ih hleft hlast
      rw [observed_seqAdvance, hdone.observed] at hobs
      exact ⟨u, hrun, hobs, hframe'.trans hframe⟩

/-- A list that ends with SET_LOW and two holds leaves LEVEL at 0. -/
theorem Observed.level_play_ends_low (o : Observed) (ops : List MicroOp) (d d' : Duration) :
    (o.play (ops ++ [.drv .setLow, .hold d, .hold d'])).line.1 = false := by
  rw [play_append]; rfl

/-- Settles O40: the run sends the whole list, and the list's time and events are those of R144. -/
theorem sendOnReferenceHardwareSendsItsFrames : Obligations.SendOnReferenceHardwareSendsItsFrames := by
  intro s p hb _ huops hidx hin href hrep hlen hall
  have henough : (buildSend p).count (.drv .setHigh) + (buildSend p).count (.drv .setLow) ≤ s.answers.length := by
    rwa [count_setHigh_buildSend, count_setLow_buildSend, ← Nat.two_mul, ← Nat.mul_assoc]
  have hleft : SendLeft p (buildSend p) s :=
    { running := hb, list := huops, rest := by rw [hidx]; rfl, noInputs := hin, reference := href
      answers := ⟨hall, henough⟩ }
  obtain ⟨ops, d, d', hends⟩ := buildSend_ends_low hrep
  obtain ⟨t, hrun, hobs, hframe⟩ := hleft.run (by simp [hends])
  simp only [sendFrame, Prod.mk.injEq] at hframe
  obtain ⟨hlifecycle, howned, hbitlen⟩ := hframe
  have hlevel : t.lineLevel = false :=
    (congrArg (fun o => o.line.1) hobs).trans (hends ▸ (observed s).level_play_ends_low ops d d')
  have htime : t.time = s.time + p.repeats.toNat * frameTime p := by
    rw [← opsTime_buildSend]; exact (congrArg Observed.time hobs).trans ((observed s).time_play _)
  have htrace : t.trace = s.trace ++ sendEvents p s.time := by
    rw [← opsEvents_buildSend]; exact (congrArg Observed.trace hobs).trans ((observed s).trace_play _)
  rw [length_buildSend] at hrun
  exact ⟨idleWith .ok t, hrun, rfl, rfl, rfl, rfl, rfl, hlifecycle, howned, hlevel, hbitlen, htime, htrace⟩

end Sys2Proof.Machine
end

section
/-! PROOF. The device commands at their issue (43_device_commands.md sections 2 to 5): rejected while BUSY, ended at
once, or started with the first micro-operation of their list. -/

namespace Sys2Proof.Machine

/-! ### A command word's instruction -/

/-- What an accepted command does (43_device_commands.md R162). -/
def startOf : Command → State → State
  | .init => startInit
  | .send => startSend
  | .cleanup => startCleanup
  | .illegal _ => startIllegal

theorem isCommandStart_startOf (c : Command) : IsCommandStart (startOf c) := by
  cases c with
  | init => exact .inl rfl
  | send => exact .inr (.inl rfl)
  | cleanup => exact .inr (.inr (.inl rfl))
  | illegal w => exact .inr (.inr (.inr rfl))

theorem exec_command (c : Command) (s : State) :
    exec c.toInstr s = .next (writeDone (issueCommand (startOf c) s)) := by
  cases c <;> rfl

/-- R163, BUSY = 1. -/
theorem exec_command_busy (c : Command) {s : State} (hb : s.busy = true) :
    exec c.toInstr s = .next { s with reject := true, resp := .written } := by
  rw [exec_command, issueCommand_busy _ hb]
  rfl

/-- R162, BUSY = 0: REJECT is cleared and the command starts. -/
theorem exec_command_idle (c : Command) {s t : State} (hb : s.busy = false)
    (hstart : startOf c { s with reject := false } = t) : exec c.toInstr s = .next (writeDone t) := by
  rw [exec_command, issueCommand_idle _ hb, hstart]

/-- A command whose start is its `finish(code)` has no other effect (60_exceptions.md R200). -/
theorem exec_command_ended (c : Command) {s : State} {code : ResultCode} (hb : s.busy = false)
    (hend : startOf c { s with reject := false } = idleWith code { s with reject := false }) :
    exec c.toInstr s = .next { endedAtIssue code s with resp := .written } :=
  exec_command_idle c hb hend

/-- The start of a command moves neither STATE, which its last micro-operation may, nor REJECT, which its issue
has cleared. -/
theorem start_lifecycle_reject {start : State → State} (s : State) (hstart : IsCommandStart start) :
    (start s).lifecycle = s.lifecycle ∧ (start s).reject = s.reject := by
  obtain rfl | rfl | rfl | rfl := hstart
  · obtain ⟨code, e⟩ | ⟨-, -, idx, e⟩ := startInit_cases s <;> rw [e] <;> exact ⟨rfl, rfl⟩
  · obtain e | ⟨-, e⟩ | ⟨-, -, e⟩ := startSend_cases s <;> rw [e] <;> exact ⟨rfl, rfl⟩
  · obtain ⟨code, e⟩ | ⟨-, e⟩ := startCleanup_cases s <;> rw [e] <;> exact ⟨rfl, rfl⟩
  · exact ⟨rfl, rfl⟩

/-- Settles O17: a busy block rejects, an idle one clears REJECT and no start sets it again. -/
theorem busyBlockRejectsEveryCommand : Obligations.BusyBlockRejectsEveryCommand := by
  intro s w i hdec
  obtain rfl : (decodeCommand w).toInstr = i := by simpa [decode] using hdec
  refine ⟨fun hb => ⟨.written, exec_command_busy _ hb⟩, fun hb => ⟨_, exec_command_idle _ hb rfl, ?_⟩⟩
  obtain ⟨-, hreject⟩ := start_lifecycle_reject { s with reject := false } (isCommandStart_startOf (decodeCommand w))
  exact hreject

/-! ### INIT -/

theorem encodeMicroOp_acquire : encodeMicroOp (.drv .acquire) = 0x40000000000#44 := by decide

/-- R166. -/
theorem startInit_owned {s : State} (h : s.lifecycle = .enabled ∨ s.lineOwned = true) :
    startInit s = idleWith .errLineOwned s := by
  rw [startInit, if_pos h, finish_eq]

theorem not_enabled_or_owned {s : State} (hl : s.lifecycle ≠ .enabled) (ho : s.lineOwned = false) :
    ¬ (s.lifecycle = .enabled ∨ s.lineOwned = true) := by
  simp [hl, ho]

/-- R167. -/
theorem startInit_badProtocol {s : State} (hl : s.lifecycle ≠ .enabled) (ho : s.lineOwned = false)
    (hp : s.argProto.toNat < 1 ∨ 6 < s.argProto.toNat) : startInit s = idleWith .errBadProtocol s := by
  rw [startInit, if_neg (not_enabled_or_owned hl ho), initIndex_eq_none.2 hp, finish_eq]

/-- R165, up to the ACQUIRE. -/
theorem startInit_acquire {s : State} {idx : Fin 6} (hl : s.lifecycle ≠ .enabled) (ho : s.lineOwned = false)
    (hp : s.argProto.toNat = idx.val + 1) :
    startInit s = startSequence .init (.words [encodeMicroOp (.drv .acquire)]) (latchInit idx s) := by
  rw [startInit, if_neg (not_enabled_or_owned hl ho), initIndex_eq_some.2 hp]

/-- The state an accepted INIT leaves, its ACQUIRE before it (43_device_commands.md R165). -/
def initStarted (idx : Fin 6) (s : State) : State :=
  { s with
    reject := false, busy := true, curCmd := .init, uops := .words [0x40000000000#44], seqIdx := 0
    latProto := idx, latRepeat := s.argRepeat, latPulse := s.argPulse, latBitlen := s.argBitlen
    resp := .written }

theorem exec_init_started {s : State} {idx : Fin 6} (hb : s.busy = false) (hl : s.lifecycle ≠ .enabled)
    (ho : s.lineOwned = false) (hp : s.argProto.toNat = idx.val + 1) :
    exec .init s = .next (initStarted idx s) := by
  have hstart := startInit_acquire (s := { s with reject := false }) hl ho hp
  rw [encodeMicroOp_acquire] at hstart
  exact exec_command_idle .init hb hstart

/-- Settles O20, by `exec_init_started`. -/
theorem initStartsAcquire : Obligations.InitStartsAcquire := fun _ _ hb hl ho hp =>
  exec_init_started hb hl ho hp

/-- Settles O21: INIT's first check ends it. -/
theorem initRefusedWhileLineOwned : Obligations.InitRefusedWhileLineOwned := fun s hb h =>
  ⟨.written, exec_command_ended .init hb (startInit_owned (s := { s with reject := false }) h)⟩

/-- Settles O22: INIT's second check ends it. -/
theorem initRefusesProtocolOutsideTable : Obligations.InitRefusesProtocolOutsideTable := fun s hb hl ho hp =>
  ⟨.written, exec_command_ended .init hb (startInit_badProtocol (s := { s with reject := false }) hl ho hp)⟩

/-! ### SEND -/

/-- R169. -/
theorem startSend_notEnabled {s : State} (hl : s.lifecycle ≠ .enabled) : startSend s = idleWith .errNotInit s := by
  rw [startSend, if_pos hl, finish_eq]

/-- R168 with an empty list, R170. -/
theorem startSend_empty {s : State} (hl : s.lifecycle = .enabled)
    (hlen : sendLen (sendPlanOf (encodedSend s)) = 0) : startSend s = idleWith .ok (encodedSend s) := by
  rw [startSend, if_neg (Decidable.not_not.2 hl)]
  exact if_pos hlen

/-- R168 with entries to send. -/
theorem startSend_list {s : State} (hl : s.lifecycle = .enabled)
    (hlen : sendLen (sendPlanOf (encodedSend s)) ≠ 0) :
    startSend s = startSequence .send (.send (sendPlanOf (encodedSend s))) (encodedSend s) := by
  rw [startSend, if_neg (Decidable.not_not.2 hl)]
  exact if_neg hlen

/-- A repeat has entries, so only a list of no repeats is empty (42_waveform_transmitter.md R136). -/
theorem sendLen_eq_zero_iff (p : SendPlan) : sendLen p = 0 ↔ p.repeats = 0#32 := by
  rw [sendLen, Nat.mul_eq_zero, or_iff_left (Nat.ne_of_gt (frameLen_pos p)), BitVec.toNat_eq]
  rfl

/-- R114 with its numbers. -/
theorem widenedBitlen_eq (code : Code) (bitlen : Word) :
    widenedBitlen code bitlen = if code.toNat > 16777216 then 32#32 else bitlen := by
  simp only [widenedBitlen, widens, decide_eq_true_eq]

/-- Settles O23: the list is not empty, and it is the list of what ENCODE leaves. -/
theorem sendEncodesAndStartsList : Obligations.SendEncodesAndStartsList := by
  intro s hb hl hrep
  dsimp only
  have hlen : sendLen (sendPlanOf (encodedSend { s with reject := false })) ≠ 0 := by
    rwa [Ne, sendLen_eq_zero_iff]
  rw [← widenedBitlen_eq]
  exact exec_command_idle .send hb (startSend_list (s := { s with reject := false }) hl hlen)

/-- Settles O24: a list of no repeats is empty, and the SEND ends with what ENCODE leaves. -/
theorem sendWithZeroRepeatsEndsAtOnce : Obligations.SendWithZeroRepeatsEndsAtOnce := by
  refine ⟨fun s hb hl hrep => ⟨.written, ?_⟩, fun p => ?_⟩
  · have hlen : sendLen (sendPlanOf (encodedSend { s with reject := false })) = 0 :=
      (sendLen_eq_zero_iff _).2 hrep
    rw [← widenedBitlen_eq]
    exact exec_command_idle .send hb (startSend_empty (s := { s with reject := false }) hl hlen)
  · rw [← List.length_eq_zero_iff, length_buildSend, sendLen_eq_zero_iff]

/-- Settles O25: neither NONE nor DISABLED is ENABLED, so SEND's check ends it. -/
theorem sendRefusedWithoutEnabledDevice : Obligations.SendRefusedWithoutEnabledDevice := by
  intro s hb h
  have hl : s.lifecycle ≠ .enabled := by
    obtain h | h := h <;> simp [h]
  exact ⟨.written, exec_command_ended .send hb (startSend_notEnabled (s := { s with reject := false }) hl)⟩

/-! ### CLEANUP -/

theorem encodeMicroOp_release : encodeMicroOp (.drv .release) = 0x60000000000#44 := by decide

/-- R177 on a DISABLED device. -/
theorem startCleanup_disabled {s : State} (hl : s.lifecycle = .disabled) :
    startCleanup s = idleWith .errDoubleTeardown s := by
  simp only [startCleanup, hl, finish_eq]

/-- R177 without a device. -/
theorem startCleanup_none {s : State} (hl : s.lifecycle = .none) : startCleanup s = idleWith .errNotInit s := by
  simp only [startCleanup, hl, finish_eq]

/-- R174, up to the RELEASE. -/
theorem startCleanup_enabled {s : State} (hl : s.lifecycle = .enabled) :
    startCleanup s = startSequence .cleanup (.words [encodeMicroOp (.drv .release)]) s := by
  simp only [startCleanup, hl]

/-- The state an accepted CLEANUP leaves, its RELEASE before it (43_device_commands.md R174). -/
def cleanupStarted (s : State) : State :=
  { s with
    reject := false, busy := true, curCmd := .cleanup, uops := .words [0x60000000000#44], seqIdx := 0
    resp := .written }

theorem exec_cleanup_started {s : State} (hb : s.busy = false) (hl : s.lifecycle = .enabled) :
    exec .cleanup s = .next (cleanupStarted s) := by
  have hstart := startCleanup_enabled (s := { s with reject := false }) hl
  rw [encodeMicroOp_release] at hstart
  exact exec_command_idle .cleanup hb hstart

theorem exec_cleanup_disabled {s : State} (hb : s.busy = false) (hl : s.lifecycle = .disabled) :
    exec .cleanup s = .next { endedAtIssue .errDoubleTeardown s with resp := .written } :=
  exec_command_ended .cleanup hb (startCleanup_disabled (s := { s with reject := false }) hl)

/-- Settles O26, by `exec_cleanup_started`. -/
theorem cleanupStartsRelease : Obligations.CleanupStartsRelease := fun _ hb hl => exec_cleanup_started hb hl

/-- Settles O27, by CLEANUP's two refusals. -/
theorem cleanupStateErrorsHaveNoOtherEffect : Obligations.CleanupStateErrorsHaveNoOtherEffect := fun s hb =>
  ⟨fun hl => ⟨.written, exec_cleanup_disabled hb hl⟩,
    fun hl => ⟨.written, exec_command_ended .cleanup hb (startCleanup_none (s := { s with reject := false }) hl)⟩⟩

end Sys2Proof.Machine
end

section
/-! PROOF. The life of a device over several steps (43_device_commands.md sections 3, 5 and 6): an INIT and a CLEANUP
each with the turn that ends them, and how STATE moves in one step. -/

namespace Sys2Proof.Machine

/-! ### A command and the turn that ends it -/

/-- A command word that comes next is issued by the step. -/
theorem step_command {s : State} {w : Word} {rest : List Input}
    (hin : s.inputs = .bus (.write 4#8 0#32 w) :: rest) :
    step s = exec (decodeCommand w).toInstr { s with inputs := rest } := by
  obtain ⟨-, hstep⟩ := writeToCmdRunsDecodedCommand s w _ rfl
  exact hstep rest hin

/-- A tick lets a busy block perform the micro-operation at SEQ_IDX. -/
theorem step_tick {s : State} {m : MicroOp} {rest : List Input} (hin : s.inputs = .tick :: rest)
    (hb : s.busy = true) (hw : uopAt s.uops s.seqIdx = some (encodeMicroOp m)) :
    step s = exec m.toInstr { s with inputs := rest } := by
  rw [← sequencerTurn_of_uopAt (s := { s with inputs := rest }) hb hw]
  simp only [step, hin]

/-- An accepted INIT is at its ACQUIRE, and the answer ends it. -/
theorem run_init {s : State} {idx : Fin 6} {rest : List Input} (k : Nat)
    (hin : s.inputs = .bus (.write 4#8 0#32 1#32) :: .tick :: rest) (hb : s.busy = false)
    (hl : s.lifecycle ≠ .enabled) (ho : s.lineOwned = false) (hp : s.argProto.toNat = idx.val + 1) :
    Host.Core.run core (k + 2) s =
      Host.Core.run core k (endInit (initStarted idx { s with inputs := rest })) := by
  have hissue : step s = .next (initStarted idx { s with inputs := .tick :: rest }) :=
    (step_command hin).trans (exec_init_started hb hl ho hp)
  have hturn : step (initStarted idx { s with inputs := .tick :: rest }) =
      .next (endInit (initStarted idx { s with inputs := rest })) :=
    step_tick (m := .drv .acquire) rfl rfl (congrArg some encodeMicroOp_acquire.symm)
  rw [run_succ hissue, run_succ hturn]

/-- Settles O41: the ACQUIRE answered `ok` writes the latched operands and owns the line. -/
theorem initThenTurnConstructsDevice : Obligations.InitThenTurnConstructsDevice := by
  intro s rest idx hin hb hl ho hp ha
  have hok : nextAnswer (initStarted idx { s with inputs := rest }) = .ok := ha
  refine ⟨endInit (initStarted idx { s with inputs := rest }), run_init 0 hin hb hl ho hp, ?_⟩
  rw [endInit_ok hok]
  exact ⟨rfl, rfl, rfl, rfl, rfl, rfl, rfl, rfl, rfl, rfl, rfl⟩

/-- An accepted CLEANUP is at its RELEASE, and the answer ends it. -/
theorem run_cleanup {s : State} {rest : List Input} (k : Nat)
    (hin : s.inputs = .bus (.write 4#8 0#32 3#32) :: .tick :: rest) (hb : s.busy = false)
    (hl : s.lifecycle = .enabled) :
    Host.Core.run core (k + 2) s = Host.Core.run core k (endCleanup (cleanupStarted { s with inputs := rest })) := by
  have hissue : step s = .next (cleanupStarted { s with inputs := .tick :: rest }) :=
    (step_command hin).trans (exec_cleanup_started hb hl)
  have hturn : step (cleanupStarted { s with inputs := .tick :: rest }) =
      .next (endCleanup (cleanupStarted { s with inputs := rest })) :=
    step_tick (m := .drv .release) rfl rfl (congrArg some encodeMicroOp_release.symm)
  rw [run_succ hissue, run_succ hturn]

/-- A CLEANUP whose RELEASE is answered `ok` disables the device and gives up the line, whatever follows
(43_device_commands.md R175). -/
theorem run_cleanup_ok {s : State} {rest : List Input}
    (hin : s.inputs = .bus (.write 4#8 0#32 3#32) :: .tick :: rest) (hb : s.busy = false)
    (hl : s.lifecycle = .enabled) (ha : nextAnswer s = .ok) :
    ∃ t, (∀ k, Host.Core.run core (k + 2) s = Host.Core.run core k t) ∧ t.lifecycle = .disabled ∧
      t.lineOwned = false ∧ t.lineLevel = s.lineLevel ∧ t.busy = false ∧ t.result = .ok ∧ t.inputs = rest := by
  have hok : nextAnswer (cleanupStarted { s with inputs := rest }) = .ok := ha
  refine ⟨endCleanup (cleanupStarted { s with inputs := rest }), fun k => run_cleanup k hin hb hl, ?_⟩
  rw [endCleanup_ok hok]
  exact ⟨rfl, rfl, rfl, rfl, rfl, rfl⟩

/-- Settles O42: the first CLEANUP disables the device, so the second is refused. -/
theorem secondCleanupIsDoubleTeardown : Obligations.SecondCleanupIsDoubleTeardown := by
  intro s rest hin hb hl ha
  obtain ⟨t, hrun, hdisabled, howned, hlevel, hidle, hresult, hnext⟩ := run_cleanup_ok hin hb hl ha
  have hsecond := (step_command hnext).trans (exec_cleanup_disabled (s := { t with inputs := rest }) hidle hdisabled)
  exact ⟨⟨t, hrun 0, hdisabled, howned, hlevel, hidle, hresult⟩,
    ⟨_, (hrun 1).trans (run_succ hsecond), hdisabled, rfl, rfl, rfl⟩⟩

/-! ### How STATE moves -/

theorem lifecycle_seqAdvance (s : State) : (seqAdvance s).lifecycle = s.lifecycle := by
  by_cases hmore : s.seqIdx + 1 < uopCount s.uops
  · rw [seqAdvance_more hmore]
  · rw [seqAdvance_last hmore]; rfl

theorem lifecycle_driveLine (op : DrvOp) (s : State) : (driveLine op s).lifecycle = s.lifecycle := by
  cases op <;> rfl

theorem lifecycle_transmitSet (op : DrvOp) (s : State) : (transmitSet op s).lifecycle = s.lifecycle := by
  cases ha : nextAnswer s with
  | ok => rw [transmitSet_ok op ha, lifecycle_seqAdvance, lifecycle_driveLine]; rfl
  | err => rw [transmitSet_err op ha]; rfl

theorem lifecycle_of_view {s t : State} (hview : invariantView t = invariantView s) : t.lifecycle = s.lifecycle :=
  show (invariantView t).lifecycle = (invariantView s).lifecycle from congrArg State.lifecycle hview

/-- No host access moves STATE: the commands do by their micro-operations. -/
theorem lifecycle_busCycle {s t : State} {c : BusCycle} (h : exec c.toInstr s = .next t) :
    t.lifecycle = s.lifecycle := by
  obtain ⟨off, rfl⟩ | ⟨v, rfl⟩ | ⟨off, v, rfl⟩ | ⟨start, hstart, rfl⟩ := exec_busCycle_cases h
  · rfl
  · rfl
  · exact lifecycle_of_view (invariantView_memWrite off v s)
  · cases hb : s.busy with
    | true => rw [issueCommand_busy start hb]; rfl
    | false =>
      rw [issueCommand_idle start hb]
      obtain ⟨hlifecycle, -⟩ := start_lifecycle_reject { s with reject := false } hstart
      exact hlifecycle

/-- From `s` to `t`, STATE stays, a running CLEANUP moves it from ENABLED to DISABLED, or a running INIT moves it
to ENABLED with the line owned (43_device_commands.md R175, R176, R178). -/
def LifecycleMoves (s t : State) : Prop :=
  t.lifecycle = s.lifecycle ∨
  (s.curCmd = .cleanup ∧ s.lifecycle = .enabled ∧ t.lifecycle = .disabled) ∨
  (s.curCmd = .init ∧ t.lifecycle = .enabled ∧ t.lineOwned = true)

/-- INIT enters ENABLED by the answer `ok` only (R165). -/
theorem lifecycleMoves_endInit {s : State} (hc : s.curCmd = .init) : LifecycleMoves s (endInit s) := by
  cases ha : nextAnswer s with
  | ok => rw [endInit_ok ha]; exact .inr (.inr ⟨hc, rfl, rfl⟩)
  | err => rw [endInit_err ha]; exact .inl rfl

/-- CLEANUP leaves ENABLED by the answer `ok`, or by `err` under RELEASE_FAIL_STATE = DISABLED (R175, R176). -/
theorem lifecycleMoves_endCleanup {s : State} (hc : s.curCmd = .cleanup) (hl : s.lifecycle = .enabled) :
    LifecycleMoves s (endCleanup s) := by
  cases ha : nextAnswer s with
  | ok => rw [endCleanup_ok ha]; exact .inr (.inl ⟨hc, hl, rfl⟩)
  | err =>
    rw [endCleanup_err ha]
    cases hp : s.params.releaseFailState with
    | enabled => exact .inl hl.symm
    | disabled => exact .inr (.inl ⟨hc, hl, rfl⟩)

theorem GoodState.lifecycleMoves_sequencerTurn {s t : State} (hs : GoodState s) (h : sequencerTurn s = .next t) :
    LifecycleMoves s t := by
  obtain ⟨-, rfl⟩ | ⟨hc, rfl⟩ | ⟨hc, rfl⟩ | ⟨-, op, -, rfl⟩ | ⟨-, d, rfl⟩ := hs.sequencerTurn_cases h
  · exact .inl rfl
  · exact lifecycleMoves_endInit hc
  · obtain ⟨-, -, hl⟩ := hs.cleanupReleases hc
    exact lifecycleMoves_endCleanup hc hl
  · exact .inl (lifecycle_transmitSet op s)
  · exact .inl (lifecycle_seqAdvance _)

theorem GoodState.lifecycleMoves_step {s t : State} (hs : GoodState s) (hrst : s.inputs.head? ≠ some .rst)
    (h : step s = .next t) : LifecycleMoves s t := by
  obtain ⟨rest, hin, -⟩ | ⟨c, rest, -, hexec⟩ | ⟨-, hturn⟩ := step_cases h
  · exact absurd (by rw [hin]; rfl) hrst
  · exact .inl (lifecycle_busCycle (s := { s with inputs := rest }) hexec)
  · exact (hs.after_withInputs s.inputs.tail).lifecycleMoves_sequencerTurn hturn

/-- Settles O49: each clause by the three ways STATE moves. -/
theorem lifecycleLeavesEnabledOnlyByCleanup : Obligations.LifecycleLeavesEnabledOnlyByCleanup := by
  intro s t hs hrst h
  obtain hkept | ⟨hc, hfrom, hto⟩ | ⟨hc, hto, howned⟩ := hs.lifecycleMoves_step hrst h
  · rw [hkept]
    exact ⟨id, fun hl hne => absurd hl hne, fun hl hne => absurd hl hne⟩
  · rw [hto]
    exact ⟨nofun, fun _ _ => ⟨hc, rfl⟩, nofun⟩
  · rw [hto]
    exact ⟨nofun, fun _ hne => absurd rfl hne, fun _ _ => ⟨hc, howned⟩⟩

end Sys2Proof.Machine
end

section
/-! PROOF. The driver port (44_gpio_output.md): what an answer to ACQUIRE or RELEASE leaves, and which driver operation
a step issues. -/

namespace Sys2Proof.Machine

/-! ### ACQUIRE and RELEASE -/

theorem exec_acquire (s : State) : exec .acquire s = .next (endInit s) := rfl

theorem exec_release (s : State) : exec .release s = .next (endCleanup s) := rfl

/-- Settles O28, by the two answers to an INIT's ACQUIRE. -/
theorem acquireConstructsDeviceOrFails : Obligations.AcquireConstructsDeviceOrFails := by
  intro s
  refine ⟨latency s, latency_isDraw s, fun ha => ?_, fun ha => ?_⟩
  · rw [exec_acquire, endInit_ok ha]
    rfl
  · rw [exec_acquire, endInit_err ha]

/-- Settles O29, by the two answers to a CLEANUP's RELEASE and the two values of RELEASE_FAIL_STATE. -/
theorem releaseDisablesDeviceOrFails : Obligations.ReleaseDisablesDeviceOrFails := by
  intro s
  refine ⟨latency s, latency_isDraw s, fun ha => ?_, fun ha hp => ?_, fun ha hp => ?_⟩
  · rw [exec_release, endCleanup_ok ha]
    rfl
  · rw [exec_release, endCleanup_err ha, hp]
    rfl
  · rw [exec_release, endCleanup_err ha, hp]
    rfl

/-! ### How many answers an operation takes -/

theorem drvCount_driveLine (op : DrvOp) (s : State) : (driveLine op s).drvCount = s.drvCount := by
  cases op <;> rfl

theorem drvCount_seqAdvance (s : State) : (seqAdvance s).drvCount = s.drvCount := by
  by_cases hmore : s.seqIdx + 1 < uopCount s.uops
  · rw [seqAdvance_more hmore]
  · rw [seqAdvance_last hmore]; rfl

theorem drvCount_transmitSet (op : DrvOp) (s : State) : (transmitSet op s).drvCount = s.drvCount + 1 := by
  cases ha : nextAnswer s with
  | ok => rw [transmitSet_ok op ha, drvCount_seqAdvance, drvCount_driveLine]; rfl
  | err => rw [transmitSet_err op ha]; rfl

theorem drvCount_endInit (s : State) : (endInit s).drvCount = s.drvCount + 1 := by
  cases ha : nextAnswer s with
  | ok => rw [endInit_ok ha]; rfl
  | err => rw [endInit_err ha]; rfl

theorem drvCount_endCleanup (s : State) : (endCleanup s).drvCount = s.drvCount + 1 := by
  cases ha : nextAnswer s with
  | ok => rw [endCleanup_ok ha]; rfl
  | err => rw [endCleanup_err ha]; rfl

/-- The start of a command asks the backend nothing: its micro-operations do. -/
theorem drvCount_start {start : State → State} (s : State) (hstart : IsCommandStart start) :
    (start s).drvCount = s.drvCount := by
  obtain rfl | rfl | rfl | rfl := hstart
  · obtain ⟨code, e⟩ | ⟨-, -, idx, e⟩ := startInit_cases s <;> rw [e] <;> rfl
  · obtain e | ⟨-, e⟩ | ⟨-, -, e⟩ := startSend_cases s <;> rw [e] <;> rfl
  · obtain ⟨code, e⟩ | ⟨-, e⟩ := startCleanup_cases s <;> rw [e] <;> rfl
  · rfl

theorem drvCount_issueCommand {start : State → State} (s : State) (hstart : IsCommandStart start) :
    (issueCommand start s).drvCount = s.drvCount := by
  cases hb : s.busy with
  | true => rw [issueCommand_busy start hb]
  | false => rw [issueCommand_idle start hb, drvCount_start _ hstart]

/-- No host access takes an answer: driver operations are issued by the sequencer only (44_gpio_output.md R192 to
R194). -/
theorem drvCount_busCycle {s t : State} {c : BusCycle} (h : exec c.toInstr s = .next t) :
    t.drvCount = s.drvCount := by
  obtain ⟨off, rfl⟩ | ⟨v, rfl⟩ | ⟨off, v, rfl⟩ | ⟨start, hstart, rfl⟩ := exec_busCycle_cases h
  · rfl
  · rfl
  · obtain e | e | e | e | e | e | e := memWrite_cases off v s <;> rw [e] <;> rfl
  · exact drvCount_issueCommand s hstart

/-! ### The driver operation of a step -/

/-- From `s` to `t` no driver operation is issued. -/
def IssuesNone (s t : State) : Prop := t.trace = s.trace ∧ t.drvCount = s.drvCount

/-- From `s` to `t` the one driver operation `op` is issued: one event, stamped with the time of `t`, and one answer
(42_waveform_transmitter.md R141, 44_gpio_output.md R196). -/
def IssuesOne (op : DrvOp) (s t : State) : Prop :=
  (∃ res, t.trace = s.trace ++ [{ time := t.time, op := op, res := res }]) ∧ t.drvCount = s.drvCount + 1

/-- The command that issues `op` runs, and the line is owned unless `op` is to acquire it (44_gpio_output.md R192 to
R194). -/
def MayIssue (op : DrvOp) (s : State) : Prop :=
  s.curCmd = issuerOf (.drv op) ∧ s.lineOwned = decide (op ≠ .acquire)

/-- The event of an answered operation is stamped with the time after the latency, which is the time left. -/
theorem issuesOne_of_observed {op : DrvOp} {res : Answer} {lat : Nat} {s t : State}
    (hobs : observed t = ((observed s).pass lat).record op res) (hcount : t.drvCount = s.drvCount + 1) :
    IssuesOne op s t := by
  have htime : t.time = s.time + lat := congrArg Observed.time hobs
  have htrace : t.trace = s.trace ++ [{ time := s.time + lat, op := op, res := res }] :=
    congrArg Observed.trace hobs
  exact ⟨⟨res, by rw [htrace, htime]⟩, hcount⟩

theorem issuesOne_transmitSet (op : DrvOp) (s : State) : IssuesOne op s (transmitSet op s) :=
  issuesOne_of_observed (observed_transmitSet op s) (drvCount_transmitSet op s)

theorem issuesOne_endInit (s : State) : IssuesOne .acquire s (endInit s) :=
  issuesOne_of_observed (observed_endInit s) (drvCount_endInit s)

theorem issuesOne_endCleanup (s : State) : IssuesOne .release s (endCleanup s) :=
  issuesOne_of_observed (observed_endCleanup s) (drvCount_endCleanup s)

theorem issuesNone_hold (d : Duration) (s : State) : IssuesNone s (seqAdvance (holdFully d s)) :=
  ⟨congrArg Observed.trace (observed_seqAdvance (holdFully d s)), drvCount_seqAdvance (holdFully d s)⟩

theorem issuesNone_busCycle {s t : State} {c : BusCycle} (h : exec c.toInstr s = .next t) : IssuesNone s t :=
  ⟨congrArg Observed.trace (observed_busCycle h), drvCount_busCycle h⟩

/-- A running SEND has an enabled device, which owns the line (10_state.md R39 (a)). -/
theorem GoodState.mayIssue_set {s : State} (hs : GoodState s) (hc : s.curCmd = .send) {op : DrvOp}
    (hop : op = .setLow ∨ op = .setHigh) : MayIssue op s := by
  obtain ⟨-, -, hl, -⟩ := hs.sendTransmits hc
  have howned : s.lineOwned = true := hs.enabledOwnsLine hl
  obtain rfl | rfl := hop
  · exact ⟨hc, howned⟩
  · exact ⟨hc, howned⟩

theorem GoodState.mayIssue_acquire {s : State} (hs : GoodState s) (hc : s.curCmd = .init) :
    MayIssue .acquire s := by
  obtain ⟨-, -, -, hfree⟩ := hs.initAcquires hc
  exact ⟨hc, hfree⟩

theorem GoodState.mayIssue_release {s : State} (hs : GoodState s) (hc : s.curCmd = .cleanup) :
    MayIssue .release s := by
  obtain ⟨-, -, hl⟩ := hs.cleanupReleases hc
  exact ⟨hc, hs.enabledOwnsLine hl⟩

theorem GoodState.issues_sequencerTurn {s t : State} (hs : GoodState s) (h : sequencerTurn s = .next t) :
    IssuesNone s t ∨ ∃ op, IssuesOne op s t ∧ MayIssue op s := by
  obtain ⟨-, rfl⟩ | ⟨hc, rfl⟩ | ⟨hc, rfl⟩ | ⟨hc, op, hop, rfl⟩ | ⟨-, d, rfl⟩ := hs.sequencerTurn_cases h
  · exact .inl ⟨rfl, rfl⟩
  · exact .inr ⟨.acquire, issuesOne_endInit s, hs.mayIssue_acquire hc⟩
  · exact .inr ⟨.release, issuesOne_endCleanup s, hs.mayIssue_release hc⟩
  · exact .inr ⟨op, issuesOne_transmitSet op s, hs.mayIssue_set hc hop⟩
  · exact .inl (issuesNone_hold d s)

/-- A step that is no reset issues no driver operation, or the one its running command has next. -/
theorem GoodState.issues_step {s t : State} (hs : GoodState s) (hrst : s.inputs.head? ≠ some .rst)
    (h : step s = .next t) : IssuesNone s t ∨ ∃ op, IssuesOne op s t ∧ MayIssue op s := by
  obtain ⟨rest, hin, -⟩ | ⟨c, rest, -, hexec⟩ | ⟨-, hturn⟩ := step_cases h
  · exact absurd (by rw [hin]; rfl) hrst
  · exact .inl (issuesNone_busCycle (s := { s with inputs := rest }) hexec)
  · exact (hs.after_withInputs s.inputs.tail).issues_sequencerTurn hturn

/-- Settles O47: the clause for the operation issued is its `MayIssue`. -/
theorem eachStepIssuesAtMostOneDriverOperation : Obligations.EachStepIssuesAtMostOneDriverOperation := by
  intro s t hs hrst h
  obtain hnone | ⟨op, ⟨⟨res, htrace⟩, hcount⟩, hmay⟩ := hs.issues_step hrst h
  · exact .inl hnone
  · refine .inr ⟨op, res, htrace, hcount, ?_, ?_, ?_⟩
    · rintro (rfl | rfl)
      · exact hmay
      · exact hmay
    · rintro rfl
      exact hmay
    · rintro rfl
      exact hmay

end Sys2Proof.Machine
end

section
/-! PROOF. What does not stop the machine (60_exceptions.md sections 1, 4 and 7): a bus error, an idle block, and no
fault or refusal in a good state. -/

namespace Sys2Proof.Machine

/-! ### Bus errors -/

/-- The forms of access the block refuses (20_memory.md R55). -/
theorem accessOk_eq_false_iff {size : BitVec 8} {off : BitVec 32} :
    accessOk size off = false ↔ size.toNat ≠ 4 ∨ off.toNat % 4 ≠ 0 ∨ 0x100 ≤ off.toNat := by
  rw [← Bool.not_eq_true, accessOk_iff]
  omega

theorem exec_rd_refused {size : BitVec 8} {off : BitVec 32} (hbad : accessOk size off = false) (s : State) :
    exec (.rd size off) s = .next (busError off s) := if_neg (ne_true_of_eq_false hbad)

theorem exec_wr_refused {size : BitVec 8} {off : BitVec 32} (hbad : accessOk size off = false) (v : Word)
    (s : State) : exec (.wr size off v) s = .next (busError off s) := if_neg (ne_true_of_eq_false hbad)

/-- Settles O14: each malformation alone makes the access a refused one. -/
theorem malformedAccessChangesNoState : Obligations.MalformedAccessChangesNoState := by
  intro s size off v hmalformed
  have hbad : accessOk size off = false := accessOk_eq_false_iff.2 hmalformed
  exact ⟨exec_rd_refused hbad s, exec_wr_refused hbad v s⟩

/-! ### A step by its next input (log 1) -/

theorem step_of_inputs_nil {s : State} (hin : s.inputs = []) : step s = sequencerTurn s := by
  simp only [step, hin]

theorem step_of_inputs_tick {s : State} {rest : List Input} (hin : s.inputs = .tick :: rest) :
    step s = sequencerTurn { s with inputs := rest } := by
  simp only [step, hin]

theorem step_of_inputs_bus {s : State} {c : BusCycle} {rest : List Input} (hin : s.inputs = .bus c :: rest) :
    step s = exec c.toInstr { s with inputs := rest } := by
  simp only [step, hin, hostTurn]

theorem step_of_inputs_rst {s : State} {rest : List Input} (hin : s.inputs = .rst :: rest) :
    step s = .next (applyReset { s with inputs := rest }) := by
  simp only [step, hin]

/-! ### The idle block -/

theorem sequencerTurn_idle {s : State} (hb : s.busy = false) : sequencerTurn s = .next s :=
  if_neg (ne_true_of_eq_false hb)

/-- Settles O5: both turns are the sequencer's, which leaves an idle block alone. -/
theorem idleBlockKeepsAllState : Obligations.IdleBlockKeepsAllState := fun s hb =>
  ⟨fun hin => (step_of_inputs_nil hin).trans (sequencerTurn_idle hb),
    fun rest hin => (step_of_inputs_tick hin).trans (sequencerTurn_idle (s := { s with inputs := rest }) hb)⟩

/-! ### The machine goes on -/

/-- No meaning of a micro-operation stops, in any state. -/
theorem exec_microOp_next (m : MicroOp) (s : State) : ∃ t, exec m.toInstr s = .next t := by
  obtain ⟨f, -, hf⟩ := exec_microOp_eq m
  exact ⟨f s, hf s⟩

theorem exec_rd_next (size : BitVec 8) (off : BitVec 32) (s : State) : ∃ t, exec (.rd size off) s = .next t := by
  cases hok : accessOk size off with
  | false => exact ⟨_, exec_rd_refused hok s⟩
  | true => exact ⟨_, if_pos hok⟩

/-- A write is refused, issues a command, or is a store that may be ignored (20_memory.md R53). -/
theorem exec_wr_next (size : BitVec 8) (off : BitVec 32) (v : Word) (s : State) :
    ∃ t, exec (.wr size off v) s = .next t := by
  cases hok : accessOk size off with
  | false => exact ⟨_, exec_wr_refused hok v s⟩
  | true =>
    obtain ⟨hsize, halign, hlt⟩ := accessOk_iff.1 hok
    obtain rfl : size = 4#8 := BitVec.eq_of_toNat_eq hsize
    by_cases hcmd : off.toNat = 0
    · obtain rfl : off = 0#32 := BitVec.eq_of_toNat_eq hcmd
      rw [exec_wr_cmd, runCommand_eq_exec]
      exact ⟨_, exec_command (decodeCommand v) s⟩
    · exact ⟨_, exec_wr_aligned halign hlt hcmd v s⟩

/-- No host access stops the machine, in any state: what is wrong with it is said in the
response, in REJECT or in RESULT (60_exceptions.md R200, R203, R204). -/
theorem exec_busCycle_next (c : BusCycle) (s : State) : ∃ t, exec c.toInstr s = .next t := by
  cases c with
  | read size off => exact exec_rd_next size off s
  | write size off v => exact exec_wr_next size off v s

/-- A running command has a generated micro-operation at SEQ_IDX, so neither its end is missed (log 15) nor its word
ungenerated (log 14). -/
theorem GoodState.sequencerTurn_next {s : State} (hs : GoodState s) : ∃ t, sequencerTurn s = .next t := by
  cases hc : s.curCmd with
  | none =>
    have hb : s.busy = false := Bool.eq_false_iff.2 fun hb => hs.busyHasCommand hb hc
    exact ⟨s, sequencerTurn_idle hb⟩
  | init => exact ⟨_, hs.sequencerTurn_init hc⟩
  | cleanup => exact ⟨_, hs.sequencerTurn_cleanup hc⟩
  | send =>
    rw [hs.sequencerTurn_send hc]
    exact exec_microOp_next _ s

/-- Settles O44, by the next input: only the sequencer's turn needs the invariants, and no input is part of them. -/
theorem goodStateNeverStops : Obligations.GoodStateNeverStops := by
  intro s hs
  cases hin : s.inputs with
  | nil =>
    rw [step_of_inputs_nil hin]
    exact hs.sequencerTurn_next
  | cons input rest =>
    cases input with
    | tick =>
      rw [step_of_inputs_tick hin]
      exact (hs.after_withInputs rest).sequencerTurn_next
    | bus c =>
      rw [step_of_inputs_bus hin]
      exact exec_busCycle_next c _
    | rst => exact ⟨_, step_of_inputs_rst hin⟩

end Sys2Proof.Machine
end

section
/-! PROOF. The reset values (70_reset_and_hazards.md section 1): what the window shows after RST. -/

namespace Sys2Proof.Machine

/-! ### The window at reset -/

/-- A register of the block's own state, thus none of the LUT, shows its reset value 0 (R230). -/
theorem readReg_reset_eq_zero {r : Reg} (hown : regOffset r < 0x40) : readReg State.reset r = 0#32 := by
  cases r with
  | lutW0 i | lutW1 i =>
    simp only [regOffset] at hown
    omega
  | _ => rfl

/-- A LUT word is a constant of the configuration (20_memory.md R51). -/
theorem readReg_lut_congr {r : Reg} (hlut : 0x40 ≤ regOffset r) (s s' : State) : readReg s r = readReg s' r := by
  cases r with
  | lutW0 i | lutW1 i => rfl
  | _ =>
    simp only [regOffset] at hlut
    omega

/-- The reserved offsets below the LUT included (20_memory.md R54). -/
theorem memRead_reset_eq_zero {off : Nat} (hown : off < 0x40) : memRead State.reset off = 0#32 := by
  unfold memRead
  split
  · rename_i r hr
    obtain rfl : off = regOffset r := regAt_eq_some.1 hr
    exact readReg_reset_eq_zero hown
  · rfl

/-- From the LUT's first offset on, the window shows no field of the state. -/
theorem memRead_lut_congr {off : Nat} (hlut : 0x40 ≤ off) (s s' : State) : memRead s off = memRead s' off := by
  unfold memRead
  split
  · rename_i r hr
    obtain rfl : off = regOffset r := regAt_eq_some.1 hr
    exact readReg_lut_congr hlut s s'
  · rfl

/-! ### The step and the hidden elements -/

/-- Settles O1: RST steps to `applyReset`, the window at reset is read register by register, and the hidden elements
are fields of `State.reset`. -/
theorem resetLeavesSpecifiedValues : Obligations.ResetLeavesSpecifiedValues := by
  have hbelowLut : ∀ off ∈ [0x00, 0x04, 0x08, 0x0C, 0x10, 0x14, 0x18, 0x1C, 0x20, 0x24, 0x28, 0x2C, 0x30],
      off < 0x40 := by decide
  exact ⟨fun _ _ hin => step_of_inputs_rst hin,
    fun off hoff => memRead_reset_eq_zero (hbelowLut off hoff),
    fun s _ hlut _ => memRead_lut_congr hlut State.reset s,
    rfl, rfl, rfl, rfl, rfl, rfl, rfl, rfl⟩

end Sys2Proof.Machine
end

section
/-! PROOF. Encodings read and written again (30_encoding.md sections 1, 4 and 5): what a word decodes to is encoded as
that word, and words written out from the tables decode as the encodings they are. -/

namespace Sys2Proof.Machine

/-! ### Command words, driver codes and bus cycles -/

/-- A word decodes to ILLEGAL_CMD only where it is no command's (30_encoding.md R72). -/
theorem wf_decodeCommand (w : Word) : (decodeCommand w).toInstr.wf = true := by
  unfold decodeCommand
  split
  · rfl
  next hinit =>
    split
    · rfl
    next hsend =>
      split
      · rfl
      next hcleanup =>
        simp only [Command.toInstr, Instr.wf, wfCommand, Bool.and_eq_true, bne_iff_ne]
        exact ⟨⟨hinit, hsend⟩, hcleanup⟩

theorem encode_command (c : Command) : encode c.toInstr = .cmd (encodeCommand c) := by
  cases c <;> rfl

theorem wf_drvOp (op : DrvOp) : op.toInstr.wf = true := by
  cases op <;> rfl

theorem encode_drvOp (op : DrvOp) : encode op.toInstr = .drv (encodeDrvOp op) := by
  cases op <;> rfl

theorem wf_busCycle (c : BusCycle) : c.toInstr.wf = true := by
  cases c <;> rfl

theorem encode_busCycle (c : BusCycle) : encode c.toInstr = .bus c := by
  cases c <;> rfl

/-! ### Micro-operation words -/

/-- A micro-operation word is its two fields (30_encoding.md R78). -/
theorem uopKind_append_uopDur (w : UopWord) : uopKind w ++ uopDur w = w :=
  (BitVec.extractLsb'_append_extractLsb'_eq_extractLsb' rfl).trans BitVec.extractLsb'_eq_self

/-- The two low bits of a driver KIND are its DRV_OP, and the bit above them is 0 (30_encoding.md R78). -/
theorem zero_append_drvOp {kind : BitVec 3} (hdrv : kind < 0b100#3) : 0b0#1 ++ kind.extractLsb' 0 2 = kind := by
  revert kind
  decide

/-- HOLD keeps its KIND and DUR, a driver operation its KIND and the DUR 0; no other word decodes. -/
theorem encodeMicroOp_of_decodeMicroOp {w : UopWord} {m : MicroOp} (h : decodeMicroOp w = .ok m) :
    encodeMicroOp m = w := by
  unfold decodeMicroOp at h
  split at h
  next hhold =>
    cases h
    rw [encodeMicroOp, ← hhold, uopKind_append_uopDur]
  next hnothold =>
    split at h
    · cases h
    next hnotreserved =>
      split at h
      next hdur =>
        cases h
        have hdrv : uopKind w < 0b100#3 := BitVec.lt_of_le_ne (BitVec.not_lt.1 hnotreserved) hnothold
        rw [encodeMicroOp, encodeDrvOp_decodeDrvOp, zero_append_drvOp hdrv, ← hdur, uopKind_append_uopDur]
      · cases h

/-- Settles O8: the decoder answers a well-formed instruction in each of the first three formats, and its encoding is
the encoder's word for what was decoded. -/
theorem encodeOfDecodeIsWord : Obligations.EncodeOfDecodeIsWord := by
  refine ⟨fun w => ?_, fun op => ?_, fun c => ?_, fun w m => encodeMicroOp_of_decodeMicroOp⟩
  · exact ⟨_, rfl, wf_decodeCommand w, by rw [encode_command, encodeCommand_decodeCommand]⟩
  · exact ⟨_, rfl, wf_drvOp _, by rw [encode_drvOp, encodeDrvOp_decodeDrvOp]⟩
  · exact ⟨_, rfl, wf_busCycle c, encode_busCycle c⟩

/-! ### Words written out -/

/-- The four formats differ in their number of bytes. -/
theorem formatOfBits_bytes (fmt : Format) : formatOfBits (8 * fmt.bytes) = some fmt := by
  cases fmt <;> rfl

/-- The bits of an encoding, read as a table word, are the instruction it decodes to. -/
theorem decodeTableWord_toNat {e : Encoded} {i : Instr} (hdec : decode e = .ok i) :
    decodeTableWord (8 * e.format.bytes) e.toNat = some i := by
  have hbytes : decodeBytes e.format (bytesOfNat e.format.bytes e.toNat) = .ok i :=
    (decodeBytes_encodeBytes e).trans hdec
  simp only [decodeTableWord, formatOfBits_bytes, hbytes]

theorem decodeTableWord_command {c : Command} (hwf : wfCommand c = true) :
    decodeTableWord 32 (encodeCommand c).toNat = some c.toInstr :=
  decodeTableWord_toNat (decode_cmd_encodeCommand hwf)

theorem decodeTableWord_drvOp (op : DrvOp) : decodeTableWord 8 (encodeDrvOp op).toNat = some op.toInstr :=
  decodeTableWord_toNat (e := .drv (encodeDrvOp op)) (by rw [decode, decodeDrvOp_encodeDrvOp])

theorem decodeTableWord_microOp (m : MicroOp) : decodeTableWord 48 (encodeMicroOp m).toNat = some m.toInstr :=
  decodeTableWord_toNat (decode_uop_encodeMicroOp m)

/-- Settles O6: each number written out is the encoder's for the instruction, so the round trip of its format decodes
it; the bytes of the two bus lines are those of their cycles. -/
theorem writtenOutWordsDecode : Obligations.WrittenOutWordsDecode :=
  ⟨decodeTableWord_command (c := .init) rfl,
    decodeTableWord_command (c := .send) rfl,
    decodeTableWord_command (c := .cleanup) rfl,
    decodeTableWord_command (c := .illegal 0x11#32) rfl,
    decodeTableWord_drvOp .setLow,
    decodeTableWord_drvOp .setHigh,
    decodeTableWord_drvOp .acquire,
    decodeTableWord_drvOp .release,
    decodeTableWord_microOp (.drv .setHigh),
    decodeTableWord_microOp (.drv .acquire),
    decodeTableWord_microOp (.hold 10850#41),
    decodeBytes_encodeBytes (.bus (.read 4#8 0x50#32)),
    decodeBytes_encodeBytes (.bus (.write 4#8 0x08#32 3#32))⟩

end Sys2Proof.Machine
end

section
/-! PROOF. A code that fits in the bit length (41_bit_encoder.md R117), the acknowledgement of a command write (log 6),
and the parameters that no step changes (log 4). -/

namespace Sys2Proof.Machine

/-! ### A code that fits -/

/-- Settles O34: it is the first of the digit string's three cases. -/
theorem fittingCodeReadsBackWhole : Obligations.FittingCodeReadsBackWhole := by
  intro code B hfits
  obtain ⟨hwhole, -, -⟩ := digitStringHasThreeCases code B
  exact hwhole hfits

/-! ### The acknowledgement -/

/-- Settles O19: accepted or rejected, the issue of the command is followed by `writeDone`. -/
theorem commandWriteIsAcknowledged : Obligations.CommandWriteIsAcknowledged := by
  intro s w i hdec
  obtain rfl : (decodeCommand w).toInstr = i := by simpa [decode] using hdec
  exact ⟨_, exec_command (decodeCommand w) s, writeDone_resp _⟩

/-! ### The parameters -/

theorem params_seqAdvance (s : State) : (seqAdvance s).params = s.params := by
  by_cases hmore : s.seqIdx + 1 < uopCount s.uops
  · rw [seqAdvance_more hmore]
  · rw [seqAdvance_last hmore]; rfl

/-- An operation draws its latency under the bound SET_LATENCY_US and leaves the bound. -/
theorem params_driverOp (op : DrvOp) (s : State) : (driverOp op s).params = s.params := by
  cases ha : nextAnswer s with
  | ok => rw [driverOp_ok op ha]; cases op <;> rfl
  | err => rw [driverOp_err op ha]; rfl

theorem params_transmitSet (op : DrvOp) (s : State) : (transmitSet op s).params = s.params := by
  unfold transmitSet
  split
  · rw [params_seqAdvance, params_driverOp]
  · rw [finish_params, params_driverOp]

theorem params_endInit (s : State) : (endInit s).params = s.params := by
  unfold endInit
  split
  · rw [finish_params]; exact params_driverOp .acquire s
  · rw [finish_params, params_driverOp]

/-- RELEASE_FAIL_STATE is read where the RELEASE fails (43_device_commands.md R176), and kept. -/
theorem params_endCleanup (s : State) : (endCleanup s).params = s.params := by
  unfold endCleanup
  split <;> rw [finish_params] <;> exact params_driverOp .release s

theorem params_microOp {m : MicroOp} {s t : State} (h : exec m.toInstr s = .next t) : t.params = s.params := by
  obtain ⟨op, -, -, rfl⟩ | ⟨-, rfl⟩ | ⟨-, rfl⟩ | ⟨d, -, rfl⟩ := exec_microOp_cases h
  · exact params_transmitSet op s
  · exact params_endInit s
  · exact params_endCleanup s
  · exact params_seqAdvance (holdFully d s)

theorem params_sequencerTurn {s t : State} (h : sequencerTurn s = .next t) : t.params = s.params := by
  obtain ⟨-, rfl⟩ | ⟨-, -, -, rfl⟩ | ⟨-, w, m, -, -, hexec⟩ := sequencerTurn_cases h
  · rfl
  · rfl
  · exact params_microOp hexec

/-- The start of a command latches operands and sets up its list. -/
theorem params_start {start : State → State} (s : State) (hstart : IsCommandStart start) :
    (start s).params = s.params := by
  obtain rfl | rfl | rfl | rfl := hstart
  · obtain ⟨code, e⟩ | ⟨-, -, idx, e⟩ := startInit_cases s <;> rw [e] <;> rfl
  · obtain e | ⟨-, e⟩ | ⟨-, -, e⟩ := startSend_cases s <;> rw [e] <;> rfl
  · obtain ⟨code, e⟩ | ⟨-, e⟩ := startCleanup_cases s <;> rw [e] <;> rfl
  · rfl

theorem params_issueCommand {start : State → State} (s : State) (hstart : IsCommandStart start) :
    (issueCommand start s).params = s.params := by
  cases hb : s.busy with
  | true => rw [issueCommand_busy start hb]
  | false => rw [issueCommand_idle start hb, params_start _ hstart]

/-- No register of the window is a parameter. -/
theorem params_memWrite (off : Nat) (v : Word) (s : State) : (memWrite off v s).params = s.params :=
  show (invariantView (memWrite off v s)).params = (invariantView s).params from
    congrArg State.params (invariantView_memWrite off v s)

theorem params_busCycle {s t : State} {c : BusCycle} (h : exec c.toInstr s = .next t) : t.params = s.params := by
  obtain ⟨off, rfl⟩ | ⟨v, rfl⟩ | ⟨off, v, rfl⟩ | ⟨start, hstart, rfl⟩ := exec_busCycle_cases h
  · rfl
  · rfl
  · exact params_memWrite off v s
  · exact params_issueCommand s hstart

/-- Settles O51: a step is a reset, which keeps the parameters (log 12), a host access or the sequencer's turn. -/
theorem noStepChangesParameters : Obligations.NoStepChangesParameters := by
  intro s t h
  obtain ⟨rest, -, rfl⟩ | ⟨c, rest, -, hexec⟩ | ⟨-, hturn⟩ := step_cases h
  · rfl
  · exact params_busCycle (s := { s with inputs := rest }) hexec
  · exact params_sequencerTurn (s := turnState s) hturn

end Sys2Proof.Machine
end
